-- ==== Sys2Proof/Word.lean ====
section
/-! DEFINITION. The words of the NINA frame engine: bytes, 16-bit and 32-bit values, and the type parameter
`IoErr`. Every value is unsigned (00_scope.md R16). -/

namespace Sys2Proof

/-- `u8` (00_scope.md R16). -/
abbrev Byte := BitVec 8

/-- `u16` (00_scope.md R16). -/
abbrev Word16 := BitVec 16

/-- `u32` (00_scope.md R16). -/
abbrev Word32 := BitVec 32

/-- Which type `IoErr` is (00_scope.md R14): how many values it has, 0 standing for infinitely many. Nothing constrains it. -/
opaque ioErrCount : Nat

/-- The value a failed collaborator call returns (00_scope.md R14). Its type is a parameter: an element of a type of `ioErrCount`
values, of which nothing can be proved but that it has one. The block never inspects an element (DESIGN CHOICE, log entry 4). -/
structure IoErr where
  element : ZMod ioErrCount
  deriving DecidableEq, Repr, Inhabited

end Sys2Proof
end

