-- ==== Sys2Proof/Config.lean ====
section
/-! DEFINITION. What is fixed when the block is built (00_scope.md R7 to R13), the wire constants
(R9), and the free values: the draws of the peer and of the collaborators (R6, R18). -/

namespace Sys2Proof.Config

/-- The start sentinel (00_scope.md R9). -/
def START : Byte := 0xE0

/-- The end marker (00_scope.md R9). -/
def END : Byte := 0xEE

/-- The error sentinel (00_scope.md R9). -/
def ERR : Byte := 0xEF

/-- The reply bit of the command-identifier byte (00_scope.md R9). -/
def REPLY_FLAG : Byte := 0x80

/-- The request pad byte (00_scope.md R9). -/
def PAD_BYTE : Byte := 0x00

/-- The null terminator (00_scope.md R9). -/
def NUL : Byte := 0x00

/-- `WV`, the wire version (00_scope.md R7). All eight values are admitted. -/
structure WireVersion where
  countByte : Bool
  waitNotReady : Bool
  pad4 : Bool
  deriving DecidableEq, Repr, Inhabited

/-- `LIST_FORM`, the wire form of a sub-list (00_scope.md R13). -/
inductive ListForm where
  | countOnly
  | prefixed
  deriving DecidableEq, Repr, Inhabited

/-- The build parameters (00_scope.md R7 to R13). Not architectural state: no operation changes them.
The machine's `State` carries one as a constant, so that a statement over all states is a statement over all builds
(DESIGN CHOICE, log entry 5). -/
structure Build where
  wv : WireVersion
  scanCeiling : Nat
  tRstMs : Nat
  tBootMs : Nat
  rxFill : Byte
  readyActiveHigh : Bool
  listForm : ListForm
  deriving DecidableEq, Repr

/-- The builds the spec admits: the delays are at least the source's bounds (00_scope.md R10) and the three
sentinels are pairwise distinct (R9). -/
abbrev Build.Admitted (b : Build) : Prop :=
  10 ≤ b.tRstMs ∧ 750 ≤ b.tBootMs ∧ START ≠ END ∧ START ≠ ERR ∧ END ≠ ERR

/-- `RX_FILL` of the build that `State.reset` carries: OPEN, no value is given (00_scope.md R11). -/
opaque rxFill : Byte

/-- `READY_ACTIVE_HIGH` of the build that `State.reset` carries: OPEN (00_scope.md R12). -/
opaque readyActiveHigh : Bool

/-- The build that `State.reset` carries: the defaults of 00_scope.md R8, R10, R13, the wire version of
95_test_vectors.md "Default configuration" (DESIGN CHOICE, log entry 5), and the two OPEN values. -/
def Build.default : Build where
  wv := ⟨true, false, false⟩
  scanCeiling := 1000
  tRstMs := 10
  tBootMs := 750
  rxFill := Config.rxFill
  readyActiveHigh := Config.readyActiveHigh
  listForm := .countOnly

/-- The electrical level of the READY pin that carries a logical sample (00_scope.md R12, 60_exceptions.md R225). -/
def Build.readyPin (b : Build) (asserted : Bool) : Bool :=
  asserted == b.readyActiveHigh

/-- What an `Xchg` brings: the peer's byte, or a failure (00_scope.md R18). -/
inductive XchgDraw where
  | ok (rx : Byte)
  | fail (e : IoErr)
  deriving DecidableEq, Repr, Inhabited

/-- What a `ReadReady` brings: the logical sample (`true` when Ready is asserted), or a failure
(00_scope.md R18). -/
inductive ReadyDraw where
  | ok (asserted : Bool)
  | fail (e : IoErr)
  deriving DecidableEq, Repr, Inhabited

/-- What a `WriteLine` brings: success, or a failure with the level the latch then holds, which is itself
a draw (00_scope.md R18, 10_state.md R33). -/
inductive WriteDraw where
  | ok
  | fail (e : IoErr) (level : Bool)
  deriving DecidableEq, Repr, Inhabited

/-- The free draws (00_scope.md R6; 93_implementation_defined.md I7, I13, I14): nothing constrains them. The `n`-th
draw that the state's scripts do not supply is the value at `n` (log entry 3). -/
opaque xchgDraw : Nat → XchgDraw

opaque readyDraw : Nat → ReadyDraw

opaque writeDraw : Nat → WriteDraw

/-- The level of `SELECT_N` after the terminator fault (60_exceptions.md R217). -/
opaque levelDraw : Nat → Bool

/-- `TERR` after a completion with another code than TRANSPORT: unspecified (10_state.md R44). -/
opaque terrDraw : Nat → IoErr

end Sys2Proof.Config
end

