-- ==== Sys2Proof/Syntax.lean ====
section
/-! DEFINITION. `Instr`: one constructor for each of the 47 rows of opcode_table.json. The rows are of four media:
the command word CMDW (30_encoding.md R80 to R82), the send and the receive type tags (R84, R85), and the
bytes of the wire (R86 to R97). A field of a row is an argument of its constructor. -/

namespace Sys2Proof

/-- A length mode: `SMODE`, `RMODE` (30_encoding.md R80, R83). -/
inductive Mode where
  | short
  | long
  deriving DecidableEq, Repr, Inhabited

inductive Instr where
  -- CMDW16: RB, CMD, (RSV,) RMODE, SMODE
  | resetPeer (rb : BitVec 1) (cmd : BitVec 7) (rmode smode : Mode)
  | execute (rb : BitVec 1) (cmd : BitVec 7) (rmode smode : Mode)
  | illegalOp0 (rb : BitVec 1) (cmd : BitVec 7) (rsv : BitVec 2) (rmode smode : Mode)
  | illegalOp3 (rb : BitVec 1) (cmd : BitVec 7) (rsv : BitVec 2) (rmode smode : Mode)
  | illegalOp4 (rb : BitVec 1) (cmd : BitVec 7) (rsv : BitVec 2) (rmode smode : Mode)
  | illegalOp5 (rb : BitVec 1) (cmd : BitVec 7) (rsv : BitVec 2) (rmode smode : Mode)
  | illegalOp6 (rb : BitVec 1) (cmd : BitVec 7) (rsv : BitVec 2) (rmode smode : Mode)
  | illegalOp7 (rb : BitVec 1) (cmd : BitVec 7) (rsv : BitVec 2) (rmode smode : Mode)
  | illegalOp8 (rb : BitVec 1) (cmd : BitVec 7) (rsv : BitVec 2) (rmode smode : Mode)
  | illegalOp9 (rb : BitVec 1) (cmd : BitVec 7) (rsv : BitVec 2) (rmode smode : Mode)
  | illegalOpA (rb : BitVec 1) (cmd : BitVec 7) (rsv : BitVec 2) (rmode smode : Mode)
  | illegalOpB (rb : BitVec 1) (cmd : BitVec 7) (rsv : BitVec 2) (rmode smode : Mode)
  | illegalOpC (rb : BitVec 1) (cmd : BitVec 7) (rsv : BitVec 2) (rmode smode : Mode)
  | illegalOpD (rb : BitVec 1) (cmd : BitVec 7) (rsv : BitVec 2) (rmode smode : Mode)
  | illegalOpE (rb : BitVec 1) (cmd : BitVec 7) (rsv : BitVec 2) (rmode smode : Mode)
  | illegalOpF (rb : BitVec 1) (cmd : BitVec 7) (rsv : BitVec 2) (rmode smode : Mode)
  | illegalRsv6 (rb : BitVec 1) (cmd : BitVec 7) (rsv7 : BitVec 1) (rmode smode : Mode) (op : BitVec 4)
  | illegalRsv7 (rb : BitVec 1) (cmd : BitVec 7) (rsv6 : BitVec 1) (rmode smode : Mode) (op : BitVec 4)
  -- TAG4 of a send descriptor
  | encU8
  | encU16BE
  | encU16LE
  | encU32BE
  | encU32LE
  | encSpan
  | encNullterm
  | encList
  -- TAG4 of a receive descriptor
  | decU8
  | decU16BE
  | decU16LE
  | decU32BE
  | decU32LE
  | decSpan
  | decNullterm
  | decList
  -- TAG4, tags 0x8 to 0xF of either side
  | tagReserved (t : BitVec 3)
  -- WIRE8 and WIRE16BE
  | wireStart
  | wireErr
  | wireEnd
  | wireSkip (b : Byte)
  | wireCmdReq (opc : BitVec 7)
  | wireCmdReply (opc : BitVec 7)
  | wireCount (n : Byte)
  | wireLenShort (l : Byte)
  | wireLenLong (l : Word16)
  | wireListCount (k : Byte)
  | wireNul
  | wirePad
  deriving DecidableEq, Repr

end Sys2Proof
end

