-- ==== Sys2Proof/WellFormed.lean ====
section
/-! DEFINITION. Which instructions are well formed: those that some code word of the spec stands for. An
`ILLEGAL.OPx` row and `ILLEGAL.RSV7` overlap the `RSV` rows; "any value matching this row is ILLEGAL_COMMAND"
(opcode_table.json, 30_encoding.md R82), so the model gives a word with RSV ≠ 0 to the RSV rows, bit 6 first (log
entry 16). WIRE.SKIP is of lower priority than WIRE.START and WIRE.ERR (41_frame_codec.md R136). -/

namespace Sys2Proof

def Instr.WellFormed : Instr → Bool
  | .resetPeer _ _ _ _ => true
  | .execute _ _ _ _ => true
  | .illegalOp0 _ _ rsv _ _ => rsv == 0
  | .illegalOp3 _ _ rsv _ _ => rsv == 0
  | .illegalOp4 _ _ rsv _ _ => rsv == 0
  | .illegalOp5 _ _ rsv _ _ => rsv == 0
  | .illegalOp6 _ _ rsv _ _ => rsv == 0
  | .illegalOp7 _ _ rsv _ _ => rsv == 0
  | .illegalOp8 _ _ rsv _ _ => rsv == 0
  | .illegalOp9 _ _ rsv _ _ => rsv == 0
  | .illegalOpA _ _ rsv _ _ => rsv == 0
  | .illegalOpB _ _ rsv _ _ => rsv == 0
  | .illegalOpC _ _ rsv _ _ => rsv == 0
  | .illegalOpD _ _ rsv _ _ => rsv == 0
  | .illegalOpE _ _ rsv _ _ => rsv == 0
  | .illegalOpF _ _ rsv _ _ => rsv == 0
  | .illegalRsv6 _ _ _ _ _ _ => true
  | .illegalRsv7 _ _ rsv6 _ _ _ => rsv6 == 0
  | .encU8 => true
  | .encU16BE => true
  | .encU16LE => true
  | .encU32BE => true
  | .encU32LE => true
  | .encSpan => true
  | .encNullterm => true
  | .encList => true
  | .decU8 => true
  | .decU16BE => true
  | .decU16LE => true
  | .decU32BE => true
  | .decU32LE => true
  | .decSpan => true
  | .decNullterm => true
  | .decList => true
  | .tagReserved _ => true
  | .wireStart => true
  | .wireErr => true
  | .wireEnd => true
  | .wireSkip b => b != Config.START && b != Config.ERR
  | .wireCmdReq _ => true
  | .wireCmdReply _ => true
  | .wireCount _ => true
  | .wireLenShort _ => true
  | .wireLenLong _ => true
  | .wireListCount _ => true
  | .wireNul => true
  | .wirePad => true

end Sys2Proof
end

