-- ==== Sys2Proof/Decode.lean ====
section
/-! DEFINITION. The decoder of the four media (30_encoding.md R80 to R98), the encoder written from the same tables,
and `decodeTableWord`, which numbers a row's bits as opcode_table.json does.

A code word alone does not name its row: tag 0x0 is ENC.U8 in the send list and DEC.U8 in the receive list,
and the byte 0x00 on the wire is a pad, a terminator, a count or a skipped byte by its position (R97). So a word is
decoded AT A SITE, which the block's position gives. -/

namespace Sys2Proof

/-- Where the block meets a code word: the command register, the two stores' tags, and the positions of the wire
(30_encoding.md R80, R84, R86, R87, R89, R97). -/
inductive Site where
  | cmdw
  | sendTag
  | recvTag
  /-- the first byte of a request -/
  | start
  /-- a byte of the reply scan -/
  | scan
  /-- the command-identifier byte of either direction -/
  | cmdByte
  | count
  | lenShort
  | lenLong
  | listCount
  /-- the last payload byte of a null-terminated parameter -/
  | nul
  /-- the byte after the parameters -/
  | endMark
  /-- a byte after END of a request -/
  | pad
  deriving DecidableEq, Repr

/-- A code word in its own medium: a CMDW value, a 4-bit tag, or bytes in wire order. -/
inductive CodeWord where
  | cmdw (w : Word16)
  | tag (t : BitVec 4)
  | wire (bs : List Byte)
  deriving DecidableEq, Repr

/-- Why a code word stands for no row at a site. -/
inductive Reject where
  /-- not the start sentinel, where a request begins -/
  | notStart (b : Byte)
  /-- not the end marker (41_frame_codec.md R139) -/
  | notEnd (b : Byte)
  /-- not the terminator (43_param_decode.md R178) -/
  | notNul (b : Byte)
  /-- not the pad byte (41_frame_codec.md R132) -/
  | notPad (b : Byte)
  /-- a wire unit of another length than the site's -/
  | wrongLength
  /-- a code word of another medium than the site's -/
  | wrongMedium
  deriving DecidableEq, Repr

/-- `SHORT` is 0 and `LONG` is 1 (30_encoding.md R80). -/
def Mode.ofBit (b : Bool) : Mode := if b then .long else .short

def Mode.bit : Mode → BitVec 1
  | .short => 0
  | .long => 1

/-- The fields of CMDW put together (30_encoding.md R80): RB, CMD, RSV, RMODE, SMODE, OP from bit 15 down. -/
def cmdwWord (rb : BitVec 1) (cmd : BitVec 7) (rsv : BitVec 2) (rmode smode : Mode) (op : BitVec 4) : Word16 :=
  rb ++ cmd ++ rsv ++ rmode.bit ++ smode.bit ++ op

def cmdwRb (w : Word16) : BitVec 1 := w.extractLsb' 15 1

def cmdwCmd (w : Word16) : BitVec 7 := w.extractLsb' 8 7

def cmdwRsv (w : Word16) : BitVec 2 := w.extractLsb' 6 2

def cmdwRmode (w : Word16) : Mode := Mode.ofBit (w.getLsbD 5)

def cmdwSmode (w : Word16) : Mode := Mode.ofBit (w.getLsbD 4)

def cmdwOp (w : Word16) : BitVec 4 := w.extractLsb' 0 4

/-- A command word with RSV = 0, by its OP (30_encoding.md R81). -/
def decodeOp (rb : BitVec 1) (cmd : BitVec 7) (rmode smode : Mode) (op : BitVec 4) : Instr :=
  match op.toNat with
  | 0 => .illegalOp0 rb cmd 0 rmode smode
  | 1 => .resetPeer rb cmd rmode smode
  | 2 => .execute rb cmd rmode smode
  | 3 => .illegalOp3 rb cmd 0 rmode smode
  | 4 => .illegalOp4 rb cmd 0 rmode smode
  | 5 => .illegalOp5 rb cmd 0 rmode smode
  | 6 => .illegalOp6 rb cmd 0 rmode smode
  | 7 => .illegalOp7 rb cmd 0 rmode smode
  | 8 => .illegalOp8 rb cmd 0 rmode smode
  | 9 => .illegalOp9 rb cmd 0 rmode smode
  | 10 => .illegalOpA rb cmd 0 rmode smode
  | 11 => .illegalOpB rb cmd 0 rmode smode
  | 12 => .illegalOpC rb cmd 0 rmode smode
  | 13 => .illegalOpD rb cmd 0 rmode smode
  | 14 => .illegalOpE rb cmd 0 rmode smode
  | _ => .illegalOpF rb cmd 0 rmode smode

/-- Every CMDW value decodes (30_encoding.md R81, R82): a nonzero RSV wins over OP, and of its two bits the model
asks bit 6 first (log entry 16). -/
def decodeCmdw (w : Word16) : Instr :=
  if w.getLsbD 6 then
    .illegalRsv6 (cmdwRb w) (cmdwCmd w) (w.extractLsb' 7 1) (cmdwRmode w) (cmdwSmode w) (cmdwOp w)
  else if w.getLsbD 7 then
    .illegalRsv7 (cmdwRb w) (cmdwCmd w) 0 (cmdwRmode w) (cmdwSmode w) (cmdwOp w)
  else decodeOp (cmdwRb w) (cmdwCmd w) (cmdwRmode w) (cmdwSmode w) (cmdwOp w)

/-- The send side of 30_encoding.md R84. -/
def decodeSendTag (t : BitVec 4) : Instr :=
  match t.toNat with
  | 0 => .encU8
  | 1 => .encU16BE
  | 2 => .encU16LE
  | 3 => .encU32BE
  | 4 => .encU32LE
  | 5 => .encSpan
  | 6 => .encNullterm
  | 7 => .encList
  | _ => .tagReserved (t.extractLsb' 0 3)

/-- The receive side of 30_encoding.md R84. -/
def decodeRecvTag (t : BitVec 4) : Instr :=
  match t.toNat with
  | 0 => .decU8
  | 1 => .decU16BE
  | 2 => .decU16LE
  | 3 => .decU32BE
  | 4 => .decU32LE
  | 5 => .decSpan
  | 6 => .decNullterm
  | 7 => .decList
  | _ => .tagReserved (t.extractLsb' 0 3)

/-- The sentinel detector on a scan byte; START is tested first (41_frame_codec.md R136). -/
def decodeScan (b : Byte) : Instr :=
  if b = Config.START then .wireStart
  else if b = Config.ERR then .wireErr
  else .wireSkip b

/-- The command-identifier byte: bit 7 is the reply bit (30_encoding.md R88). -/
def decodeCmdByte (b : Byte) : Instr :=
  if b.getLsbD 7 then .wireCmdReply (b.extractLsb' 0 7) else .wireCmdReq (b.extractLsb' 0 7)

/-- A one-byte wire unit at a site (30_encoding.md R97). -/
def decodeWireByte (site : Site) (b : Byte) : Except Reject Instr :=
  match site with
  | .cmdw => .error .wrongMedium
  | .sendTag => .error .wrongMedium
  | .recvTag => .error .wrongMedium
  | .start => if b = Config.START then .ok .wireStart else .error (.notStart b)
  | .scan => .ok (decodeScan b)
  | .cmdByte => .ok (decodeCmdByte b)
  | .count => .ok (.wireCount b)
  | .lenShort => .ok (.wireLenShort b)
  | .lenLong => .error .wrongLength
  | .listCount => .ok (.wireListCount b)
  | .nul => if b = Config.NUL then .ok .wireNul else .error (.notNul b)
  | .endMark => if b = Config.END then .ok .wireEnd else .error (.notEnd b)
  | .pad => if b = Config.PAD_BYTE then .ok .wirePad else .error (.notPad b)

/-- The decoder: total on any code word at any site, rejecting by name. -/
def decode (site : Site) (c : CodeWord) : Except Reject Instr :=
  match c with
  | .cmdw w => if site = .cmdw then .ok (decodeCmdw w) else .error .wrongMedium
  | .tag t =>
    if site = .sendTag then .ok (decodeSendTag t)
    else if site = .recvTag then .ok (decodeRecvTag t)
    else .error .wrongMedium
  | .wire [b] => decodeWireByte site b
  | .wire [b0, b1] =>
    if site = .lenLong then .ok (.wireLenLong (b0 ++ b1))
    else if site = .cmdw ∨ site = .sendTag ∨ site = .recvTag then .error .wrongMedium
    else .error .wrongLength
  | .wire _ =>
    if site = .cmdw ∨ site = .sendTag ∨ site = .recvTag then .error .wrongMedium
    else .error .wrongLength

/-- The code word of an instruction (30_encoding.md R80 to R92, opcode_table.json). A long prefix is big-endian
(20_memory.md R64). -/
def encode : Instr → CodeWord
  | .resetPeer rb cmd rmode smode => .cmdw (cmdwWord rb cmd 0 rmode smode 0x1)
  | .execute rb cmd rmode smode => .cmdw (cmdwWord rb cmd 0 rmode smode 0x2)
  | .illegalOp0 rb cmd rsv rmode smode => .cmdw (cmdwWord rb cmd rsv rmode smode 0x0)
  | .illegalOp3 rb cmd rsv rmode smode => .cmdw (cmdwWord rb cmd rsv rmode smode 0x3)
  | .illegalOp4 rb cmd rsv rmode smode => .cmdw (cmdwWord rb cmd rsv rmode smode 0x4)
  | .illegalOp5 rb cmd rsv rmode smode => .cmdw (cmdwWord rb cmd rsv rmode smode 0x5)
  | .illegalOp6 rb cmd rsv rmode smode => .cmdw (cmdwWord rb cmd rsv rmode smode 0x6)
  | .illegalOp7 rb cmd rsv rmode smode => .cmdw (cmdwWord rb cmd rsv rmode smode 0x7)
  | .illegalOp8 rb cmd rsv rmode smode => .cmdw (cmdwWord rb cmd rsv rmode smode 0x8)
  | .illegalOp9 rb cmd rsv rmode smode => .cmdw (cmdwWord rb cmd rsv rmode smode 0x9)
  | .illegalOpA rb cmd rsv rmode smode => .cmdw (cmdwWord rb cmd rsv rmode smode 0xA)
  | .illegalOpB rb cmd rsv rmode smode => .cmdw (cmdwWord rb cmd rsv rmode smode 0xB)
  | .illegalOpC rb cmd rsv rmode smode => .cmdw (cmdwWord rb cmd rsv rmode smode 0xC)
  | .illegalOpD rb cmd rsv rmode smode => .cmdw (cmdwWord rb cmd rsv rmode smode 0xD)
  | .illegalOpE rb cmd rsv rmode smode => .cmdw (cmdwWord rb cmd rsv rmode smode 0xE)
  | .illegalOpF rb cmd rsv rmode smode => .cmdw (cmdwWord rb cmd rsv rmode smode 0xF)
  | .illegalRsv6 rb cmd rsv7 rmode smode op => .cmdw (cmdwWord rb cmd (rsv7 ++ (1 : BitVec 1)) rmode smode op)
  | .illegalRsv7 rb cmd rsv6 rmode smode op => .cmdw (cmdwWord rb cmd ((1 : BitVec 1) ++ rsv6) rmode smode op)
  | .encU8 => .tag 0x0
  | .encU16BE => .tag 0x1
  | .encU16LE => .tag 0x2
  | .encU32BE => .tag 0x3
  | .encU32LE => .tag 0x4
  | .encSpan => .tag 0x5
  | .encNullterm => .tag 0x6
  | .encList => .tag 0x7
  | .decU8 => .tag 0x0
  | .decU16BE => .tag 0x1
  | .decU16LE => .tag 0x2
  | .decU32BE => .tag 0x3
  | .decU32LE => .tag 0x4
  | .decSpan => .tag 0x5
  | .decNullterm => .tag 0x6
  | .decList => .tag 0x7
  | .tagReserved t => .tag ((1 : BitVec 1) ++ t)
  | .wireStart => .wire [Config.START]
  | .wireErr => .wire [Config.ERR]
  | .wireEnd => .wire [Config.END]
  | .wireSkip b => .wire [b]
  | .wireCmdReq opc => .wire [(0 : BitVec 1) ++ opc]
  | .wireCmdReply opc => .wire [(1 : BitVec 1) ++ opc]
  | .wireCount n => .wire [n]
  | .wireLenShort l => .wire [l]
  | .wireLenLong l => .wire [l.extractLsb' 8 8, l.extractLsb' 0 8]
  | .wireListCount k => .wire [k]
  | .wireNul => .wire [Config.NUL]
  | .wirePad => .wire [Config.PAD_BYTE]

/-- The sites at which an instruction's code word stands for it (30_encoding.md R81, R84, R86, R87). -/
def Instr.sites : Instr → List Site
  | .resetPeer _ _ _ _ => [.cmdw]
  | .execute _ _ _ _ => [.cmdw]
  | .illegalOp0 _ _ _ _ _ => [.cmdw]
  | .illegalOp3 _ _ _ _ _ => [.cmdw]
  | .illegalOp4 _ _ _ _ _ => [.cmdw]
  | .illegalOp5 _ _ _ _ _ => [.cmdw]
  | .illegalOp6 _ _ _ _ _ => [.cmdw]
  | .illegalOp7 _ _ _ _ _ => [.cmdw]
  | .illegalOp8 _ _ _ _ _ => [.cmdw]
  | .illegalOp9 _ _ _ _ _ => [.cmdw]
  | .illegalOpA _ _ _ _ _ => [.cmdw]
  | .illegalOpB _ _ _ _ _ => [.cmdw]
  | .illegalOpC _ _ _ _ _ => [.cmdw]
  | .illegalOpD _ _ _ _ _ => [.cmdw]
  | .illegalOpE _ _ _ _ _ => [.cmdw]
  | .illegalOpF _ _ _ _ _ => [.cmdw]
  | .illegalRsv6 _ _ _ _ _ _ => [.cmdw]
  | .illegalRsv7 _ _ _ _ _ _ => [.cmdw]
  | .encU8 => [.sendTag]
  | .encU16BE => [.sendTag]
  | .encU16LE => [.sendTag]
  | .encU32BE => [.sendTag]
  | .encU32LE => [.sendTag]
  | .encSpan => [.sendTag]
  | .encNullterm => [.sendTag]
  | .encList => [.sendTag]
  | .decU8 => [.recvTag]
  | .decU16BE => [.recvTag]
  | .decU16LE => [.recvTag]
  | .decU32BE => [.recvTag]
  | .decU32LE => [.recvTag]
  | .decSpan => [.recvTag]
  | .decNullterm => [.recvTag]
  | .decList => [.recvTag]
  | .tagReserved _ => [.sendTag, .recvTag]
  | .wireStart => [.start, .scan]
  | .wireErr => [.scan]
  | .wireEnd => [.endMark]
  | .wireSkip _ => [.scan]
  | .wireCmdReq _ => [.cmdByte]
  | .wireCmdReply _ => [.cmdByte]
  | .wireCount _ => [.count]
  | .wireLenShort _ => [.lenShort]
  | .wireLenLong _ => [.lenLong]
  | .wireListCount _ => [.listCount]
  | .wireNul => [.nul]
  | .wirePad => [.pad]

/-- The site `decodeTableWord` takes a bare table word at (DESIGN CHOICE, log entry 15): 16 bits are a CMDW value; of 8
bits or fewer, a word below 16 is a send tag, the three sentinels stand for themselves, and any other byte is a
command-identifier byte. -/
def tableSite (nbits w : Nat) : Site :=
  if nbits = 16 then .cmdw
  else if w < 16 then .sendTag
  else if w = 0xEE then .endMark
  else if w = 0xE0 ∨ w = 0xEF then .scan
  else .cmdByte

/-- The instruction the decoder reads from a word whose bits are numbered as opcode_table.json numbers them. -/
def decodeTableWord (nbits w : Nat) : Option Instr :=
  let c : Option CodeWord :=
    if w < 2 ^ nbits ∧ nbits = 16 then some (.cmdw (BitVec.ofNat 16 w))
    else if w < 2 ^ nbits ∧ nbits ≤ 8 then
      if w < 16 then some (.tag (BitVec.ofNat 4 w)) else some (.wire [BitVec.ofNat 8 w])
    else none
  match c with
  | none => none
  | some c =>
    match decode (tableSite nbits w) c with
    | .ok i => some i
    | .error _ => none

end Sys2Proof
end

