-- ==== Sys2Proof/Machine/State.lean ====
section
/-! DEFINITION. The state of the block, all of it (10_state.md R53), as plain data; the parameter stores; and, marked
as the model's own, the build, the draw scripts and the host's pending actions. -/

namespace Sys2Proof.Machine

open Sys2Proof.Config

/-- `STATE` (10_state.md R36). -/
inductive Fsm where
  | idle
  | rpSel
  | rpRlow
  | rpPulse
  | rpRhigh
  | rpBoot
  | acqNr
  | acqR
  | acqSel
  | tx
  | rel
  | rxScan
  | rxCmd
  | rxCount
  | rxParam
  | rxEnd
  | done
  | halted
  deriving DecidableEq, Repr

/-- `PH` (10_state.md R38). -/
inductive Phase where
  | req
  | rep
  deriving DecidableEq, Repr

/-- `CL`, the command latch (10_state.md R37). -/
structure CmdLatch where
  op : BitVec 4
  smode : Mode
  rmode : Mode
  cmd : BitVec 7
  deriving DecidableEq, Repr

/-- The values `STATUS.CODE` takes (60_exceptions.md R210); 9 to 15 are never written. -/
inductive ErrCode where
  | ok
  | transport
  | timeout
  | errorResponse
  | unexpectedByte
  | malformedLength
  | capacityExceeded
  | illegalCommand
  | terminator
  deriving DecidableEq, Repr

/-- `STATUS` by its fields (10_state.md R43); `Status.toWord` is the register as the host reads it. -/
structure Status where
  busy : Bool
  done : Bool
  fault : Bool
  code : ErrCode
  errByte : Byte
  deriving DecidableEq, Repr

/-- A `Fail(kind, info)` (00_scope.md R19; 60_exceptions.md R211 to R216). -/
inductive Failure where
  | transport (e : IoErr)
  | timeout
  | errorResponse
  | unexpectedByte (b : Byte)
  | malformedLength
  | capacityExceeded
  deriving DecidableEq, Repr

/-- The two output lines (00_scope.md R18). -/
inductive Line where
  | selectN
  | resetN
  deriving DecidableEq, Repr

/-- An event of `LOG` (10_state.md R45). A write that failed keeps its `IoErr`. -/
inductive Event where
  | xchg (tx : Byte) (r : XchgDraw)
  | ready (r : ReadyDraw)
  | write (l : Line) (level : Bool) (failed : Option IoErr)
  | delay (ms : Nat)
  | issue (w : Word16)
  | complete (status : Word16)
  deriving DecidableEq, Repr

mutual
/-- A send descriptor (20_memory.md R61). A descriptor of a reserved tag `8 + t` carries no value (30_encoding.md R85). -/
inductive SendDesc where
  | u8 (v : Byte)
  | u16be (v : Word16)
  | u16le (v : Word16)
  | u32be (v : Word32)
  | u32le (v : Word32)
  | span (d : List Byte)
  | nullterm (d : List Byte)
  | list (et : BitVec 4) (elems : SendElems)
  | reserved (t : BitVec 3)
  deriving DecidableEq, Repr
/-- The elements of a sub-list, first to last. -/
inductive SendElems where
  | nil
  | cons (d : SendDesc) (rest : SendElems)
  deriving DecidableEq, Repr
end

/-- A receive descriptor: its host-written fields (20_memory.md R62). -/
inductive RecvDesc where
  | u8
  | u16be
  | u16le
  | u32be
  | u32le
  | span (cap : Nat)
  | nullterm (cap : Nat)
  | list (ecap : Nat) (ed : RecvDesc)
  | reserved (t : BitVec 3)
  deriving DecidableEq, Repr

/-- The bytes of a receive buffer, keyed by byte index (00_scope.md R20). An index that is not listed holds no
value (10_state.md R48). -/
abbrev Memory := List Host.Cell

/-- The canonical form: indexes strictly rising. -/
abbrev Memory.wf (m : Memory) : Prop := m.Pairwise (fun a b => a.1 < b.1)

/-- One written receive destination (20_memory.md R62): a scalar's `v`, a span's buffer with its `RLEN` once that is
written, a sub-list's `RCNT`. -/
inductive Leaf where
  | u8 (v : Byte)
  | u16 (v : Word16)
  | u32 (v : Word32)
  | bytes (buf : Memory) (rlen : Option Nat)
  | count (k : Nat)
  deriving DecidableEq, Repr

/-- The place of a destination: the receive parameter's index, then the element index at each level of nesting. -/
abbrev Slot := List Nat

/-- The receive destinations that hold a value, keyed by slot. A slot that is not listed holds no value
(10_state.md R48). -/
abbrev Dests := List (Slot × Leaf)

/-- The canonical form: slots strictly rising, every buffer in its own canonical form. -/
def Leaf.wf : Leaf → Bool
  | .bytes buf _ => decide buf.wf
  | _ => true

abbrev Dests.wf (d : Dests) : Prop :=
  d.Pairwise (fun a b => a.1 < b.1) ∧ ∀ x ∈ d, x.2.wf = true

/-- One position of the stack of enclosing sub-lists (10_state.md R41): element index, element count, the expected byte
length under PREFIXED, and the bytes consumed since that length was read. -/
structure Frame where
  j : Nat
  k : Nat
  expect : Option Nat
  consumed : Nat
  deriving DecidableEq, Repr

/-- Which byte of a parameter the decoder reads next (43_param_decode.md R171 to R179): the first or the second
byte of a length prefix, an element count, a payload byte. -/
inductive Stage where
  | len0
  | len1
  | count
  | payload
  deriving DecidableEq, Repr

/-- The decode cursor (10_state.md R41), innermost sub-list first. `stage` and `held` are the pseudocode's own position and
its local variables `b0`, `b1`, `b2` (log entry 18). -/
structure Cursor where
  p : Nat
  stack : List Frame
  i : Nat
  len : Word16
  stage : Stage
  held : List Byte
  deriving DecidableEq, Repr

/-- The model's own: what the peer and the collaborators answer next, each list oldest first. Where a list is empty the
answer is the free value of `Config` at `drawn` (log entry 3). -/
structure Env where
  xchgIn : List XchgDraw
  readyIn : List ReadyDraw
  writeIn : List WriteDraw
  levelIn : List Bool
  drawn : Nat
  deriving DecidableEq, Repr

/-- The host's registers (10_state.md R42). -/
inductive HostReg where
  | cmdw
  | status
  | terr
  deriving DecidableEq, Repr

/-- The model's own: what the host may do (44_transaction.md R199; 30_encoding.md R100, R101). `pause` lets the block make one
step before the host's next action (log entry 2). -/
inductive HostAct where
  | writeReg (r : HostReg) (w : Word16)
  | send (l : List SendDesc)
  | recv (l : List RecvDesc)
  | readReg (r : HostReg)
  | readDest (slot : Slot)
  | readByte (slot : Slot) (i : Nat)
  | wait
  | pause
  deriving DecidableEq, Repr

/-- The model's own: what a host read returned. -/
inductive HostRead where
  | word (w : Word16)
  | ioErr (e : IoErr)
  | leaf (l : Leaf)
  | byte (b : Byte)
  deriving DecidableEq, Repr

structure State where
  /-- The model's own: the build, which no step changes (00_scope.md R7). -/
  build : Build
  selectN : Bool
  resetN : Bool
  fsm : Fsm
  cl : CmdLatch
  ph : Phase
  scnt : Nat
  txn : BitVec 2
  /-- The request byte index (10_state.md R49). -/
  txIdx : Nat
  cur : Cursor
  status : Status
  terr : IoErr
  log : List Event
  sp : List SendDesc
  rp : List RecvDesc
  dst : Dests
  /-- The spec's "every RP destination is unspecified" (10_state.md R48): an EXECUTE ended with another code than OK (44_transaction.md R194), or the
  fault occurred (60_exceptions.md R217), and neither an EXECUTE has started nor RP been written since. Then `dst` lists nothing. -/
  dstUnspec : Bool
  /-- The model's own: the host has written SP since reset (44_transaction.md R199, H1). -/
  spWritten : Bool
  /-- The model's own: the host has written RP since reset (44_transaction.md R199, H1). -/
  rpWritten : Bool
  /-- `err` of the handshake bracket (40_handshake.md R116): the first failure of the phase being released. -/
  err : Option Failure
  /-- The model's own: the draw scripts. -/
  env : Env
  /-- The model's own: the host's pending actions. -/
  hostq : List HostAct
  /-- The model's own: what the host has read. -/
  hostLog : List HostRead
  deriving DecidableEq, Repr

/-- Why the machine stops with a fault. -/
inductive Fault where
  /-- `step` of a HALTED block, when the host has no action left that may land: the terminator violation stopped it for
  good (60_exceptions.md R217, 44_transaction.md R201: "a fault: it is never final"). Safe: the run goes no further. -/
  | terminatorHalt
  /-- A host read of a receive value that has not been written, at any time: after reset, while BUSY or after completion (10_state.md R48: "must
  fault a read of it"; 70_reset_and_hazards.md R241). Safe. -/
  | unwrittenRead
  deriving DecidableEq, Repr

/-- A host duty whose breach the model refuses (44_transaction.md R199). -/
inductive Duty where
  /-- EXECUTE written to CMDW before the host has written SP and RP -/
  | h1
  /-- CMDW written while BUSY -/
  | h2
  /-- SP or RP written while BUSY -/
  | h3
  /-- A written or an unspecified RP destination read while not (DONE = 1 and CODE = OK) -/
  | h4
  /-- TERR read while CODE ≠ TRANSPORT -/
  | h6
  deriving DecidableEq, Repr

/-- Why the model gives a step no meaning. -/
inductive Refusal where
  /-- `exec`, for an instruction that has no meaning yet. Safe. -/
  | notModelled (mnemonic : String)
  /-- `step`, for a host action that breaks a duty: "the model refuses it" (44_transaction.md R199). Safe. -/
  | brokenDuty (d : Duty)
  /-- `step`, for a host write of more than 255 descriptors: NS and NR hold 0 to 255 (20_memory.md R61, R62). Safe. -/
  | storeRange
  /-- A meaning, when the block is not at a position where it meets the instruction's code word (30_encoding.md R97):
  a tag that is not the current descriptor's, a wire unit where no byte, or another byte, is exchanged. Never raised by a
  step of a state in `State.Inv` (Safety.lean). Safe. -/
  | outOfPosition (mnemonic : String)
  deriving DecidableEq, Repr

/-- The machine right after block reset (10_state.md R53, 70_reset_and_hazards.md R240). TERR, SP and RP are unspecified there: their
values are the model's choice (log entries 7 and 8); the model's own fields are of log entries 2, 3, 5, 17, 18 and 21. -/
def State.reset : State where
  build := Build.default
  selectN := true
  resetN := true
  fsm := .idle
  cl := ⟨0, .short, .short, 0⟩
  ph := .req
  scnt := 0
  txn := 0
  txIdx := 0
  cur := ⟨0, [], 0, 0, .len0, []⟩
  status := ⟨false, false, false, .ok, 0⟩
  terr := default
  log := []
  sp := []
  rp := []
  dst := []
  dstUnspec := false
  spWritten := false
  rpWritten := false
  err := none
  env := ⟨[], [], [], [], 0⟩
  hostq := []
  hostLog := []

end Sys2Proof.Machine
end

