-- ==== Sys2Proof/Machine/Flags.lean ====
section
/-! DEFINITION. `STATUS` and its flags: the word the host reads (10_state.md R43), the code numbers (60_exceptions.md R210), and what
issue, completion and the fault do to the fields (10_state.md R50). -/

namespace Sys2Proof.Machine

/-- The number of a code (60_exceptions.md R210). -/
def ErrCode.toBits : ErrCode → BitVec 4
  | .ok => 0
  | .transport => 1
  | .timeout => 2
  | .errorResponse => 3
  | .unexpectedByte => 4
  | .malformedLength => 5
  | .capacityExceeded => 6
  | .illegalCommand => 7
  | .terminator => 8

def flagBit (b : Bool) : BitVec 1 := if b then 1 else 0

/-- `STATUS` as the host reads it: ERRBYTE, CODE, a reserved bit that reads 0, FAULT, DONE, BUSY from bit 15 down
(10_state.md R43). -/
def Status.toWord (st : Status) : Word16 :=
  st.errByte ++ st.code.toBits ++ (0 : BitVec 1) ++ flagBit st.fault ++ flagBit st.done ++ flagBit st.busy

/-- Issue sets BUSY and clears DONE; CODE and ERRBYTE keep their values (44_transaction.md R198). -/
def Status.issued (st : Status) : Status := { st with busy := true, done := false }

/-- Completion writes CODE and ERRBYTE, clears BUSY and sets DONE (44_transaction.md R194). -/
def Status.completed (st : Status) (code : ErrCode) (byte : Byte) : Status :=
  { st with busy := false, done := true, code := code, errByte := byte }

/-- The terminator fault (60_exceptions.md R217). -/
def Status.faulted (st : Status) (t : Byte) : Status :=
  { st with busy := false, done := true, fault := true, code := .terminator, errByte := t }

/-- The code a failure completes with (60_exceptions.md R210). -/
def Failure.code : Failure → ErrCode
  | .transport _ => .transport
  | .timeout => .timeout
  | .errorResponse => .errorResponse
  | .unexpectedByte _ => .unexpectedByte
  | .malformedLength => .malformedLength
  | .capacityExceeded => .capacityExceeded

/-- The byte a failure leaves in ERRBYTE: the offending byte of UNEXPECTED_BYTE, else 0x00 (44_transaction.md R193, R194). -/
def Failure.byte : Failure → Byte
  | .unexpectedByte b => b
  | .transport _ => 0
  | .timeout => 0
  | .errorResponse => 0
  | .malformedLength => 0
  | .capacityExceeded => 0

end Sys2Proof.Machine
end

