-- ==== Sys2Proof/Machine/Ops.lean ====
section
/-! DEFINITION. The named operations every meaning is built from: the receive buffers and destinations, the collaborator
primitives with their draws and their events (00_scope.md R18), and the block's exceptions: raising a
failure inside a phase, completing, aborting, and the terminator fault (40_handshake.md R116, 44_transaction.md R193, R194, R196,
60_exceptions.md R217, R220). There is no return from an exception: the host issues anew (60_exceptions.md R221). -/

namespace Sys2Proof.Machine

open Sys2Proof.Config

/-! ### Receive buffers and destinations -/

/-- The byte at an index, if one was written. -/
def Memory.read : Memory → Nat → Option Byte
  | [], _ => none
  | (a, b) :: rest, i => if a = i then some b else Memory.read rest i

/-- Write one byte, keeping the indexes rising. -/
def Memory.write : Memory → Nat → Byte → Memory
  | [], i, v => [(i, v)]
  | (a, b) :: rest, i, v =>
    if i < a then (i, v) :: (a, b) :: rest
    else if i = a then (i, v) :: rest
    else (a, b) :: Memory.write rest i v

/-- What a slot holds, if anything was written there. -/
def Dests.get : Dests → Slot → Option Leaf
  | [], _ => none
  | (q, l) :: rest, p => if q = p then some l else Dests.get rest p

/-- Write a slot, keeping the slots rising. -/
def Dests.set : Dests → Slot → Leaf → Dests
  | [], p, v => [(p, v)]
  | (q, l) :: rest, p, v =>
    if p < q then (p, v) :: (q, l) :: rest
    else if p = q then (p, v) :: rest
    else (q, l) :: Dests.set rest p v

/-- The buffer a slot holds, empty before its first byte. -/
def Dests.buffer (d : Dests) (p : Slot) : Memory :=
  match d.get p with
  | some (.bytes buf _) => buf
  | _ => []

/-- `MemWrite(RP[p], i, 1, b)` (00_scope.md R20). -/
def Dests.memWrite (d : Dests) (p : Slot) (i : Nat) (b : Byte) : Dests :=
  d.set p (.bytes ((d.buffer p).write i b) none)

/-- `RLEN <- l`. -/
def Dests.setRlen (d : Dests) (p : Slot) (l : Nat) : Dests :=
  d.set p (.bytes (d.buffer p) (some l))

/-! ### Draws -/

/-- The draw the next `Xchg` takes. -/
def Env.xchg (e : Env) : XchgDraw :=
  match e.xchgIn with
  | d :: _ => d
  | [] => Config.xchgDraw e.drawn

def Env.dropXchg (e : Env) : Env :=
  match e.xchgIn with
  | _ :: ds => { e with xchgIn := ds }
  | [] => { e with drawn := e.drawn + 1 }

/-- The draw the next `ReadReady` takes. -/
def Env.ready (e : Env) : ReadyDraw :=
  match e.readyIn with
  | d :: _ => d
  | [] => Config.readyDraw e.drawn

def Env.dropReady (e : Env) : Env :=
  match e.readyIn with
  | _ :: ds => { e with readyIn := ds }
  | [] => { e with drawn := e.drawn + 1 }

/-- The draw the next `WriteLine` takes. -/
def Env.write (e : Env) : WriteDraw :=
  match e.writeIn with
  | d :: _ => d
  | [] => Config.writeDraw e.drawn

def Env.dropWrite (e : Env) : Env :=
  match e.writeIn with
  | _ :: ds => { e with writeIn := ds }
  | [] => { e with drawn := e.drawn + 1 }

/-- The level `SELECT_N` takes after the terminator fault. -/
def Env.level (e : Env) : Bool :=
  match e.levelIn with
  | b :: _ => b
  | [] => Config.levelDraw e.drawn

def Env.dropLevel (e : Env) : Env :=
  match e.levelIn with
  | _ :: bs => { e with levelIn := bs }
  | [] => { e with drawn := e.drawn + 1 }

/-! ### Primitives: each appends exactly one event (10_state.md R45) -/

/-- Append an event: none is ever removed (10_state.md R45). -/
def State.event (s : State) (e : Event) : State := { s with log := s.log ++ [e] }

/-- `Xchg(tx)` whose outcome is `d`: the exchange is logged and its draw taken. -/
def State.exchanged (s : State) (tx : Byte) (d : XchgDraw) : State :=
  { s with env := s.env.dropXchg, log := s.log ++ [.xchg tx d] }

/-- `ReadReady()` whose outcome is `d`. -/
def State.sampled (s : State) (d : ReadyDraw) : State :=
  { s with env := s.env.dropReady, log := s.log ++ [.ready d] }

/-- Why a write failed, if it did: what `LOG` keeps of its outcome. -/
def writeFailure : WriteDraw → Option IoErr
  | .ok => none
  | .fail e _ => some e

/-- The level of the line after a write of `level` (10_state.md R33: a draw after a failed write). -/
def writeLevel (level : Bool) : WriteDraw → Bool
  | .ok => level
  | .fail _ l => l

/-- A line's latch. -/
def State.setLine (s : State) (l : Line) (v : Bool) : State :=
  match l with
  | .selectN => { s with selectN := v }
  | .resetN => { s with resetN := v }

/-- `WriteLine(l, level)` whose outcome is `d`. -/
def State.wrote (s : State) (l : Line) (level : Bool) (d : WriteDraw) : State :=
  State.setLine { s with env := s.env.dropWrite, log := s.log ++ [.write l level (writeFailure d)] }
    l (writeLevel level d)

/-- `Delay(ms)`: only its event (40_handshake.md R119). -/
def State.delayed (s : State) (ms : Nat) : State := s.event (.delay ms)

/-- `state <- f`. -/
def State.goto (s : State) (f : Fsm) : State := { s with fsm := f }

/-! ### Exceptions -/

/-- `raise Fail` inside a phase: the failure is kept and Release comes next (40_handshake.md R116). -/
def State.failPhase (s : State) (f : Failure) : State := { s with err := some f, fsm := .rel }

/-- The RP destinations after a completion: unspecified, that is without a value, after a failed EXECUTE
(44_transaction.md R194, 10_state.md R48; log entries 9 and 10). -/
def destsAfter (code : ErrCode) (op : BitVec 4) (d : Dests) : Dests :=
  if code ≠ .ok ∧ op = 0x2 then [] else d

/-- Whether the RP destinations are unspecified after a completion (44_transaction.md R194, 10_state.md R48). -/
def unspecAfter (code : ErrCode) (op : BitVec 4) (u : Bool) : Bool :=
  if code ≠ .ok ∧ op = 0x2 then true else u

/-- `TERR` after a completion: kept for TRANSPORT, which has just written it, and unspecified, that is a free value, for every other
code (10_state.md R44; log entry 19). -/
def terrAfter (code : ErrCode) (e : Env) (terr : IoErr) : IoErr :=
  if code = .transport then terr else Config.terrDraw e.drawn

/-- The free draw that `terrAfter` takes. -/
def envAfter (code : ErrCode) (e : Env) : Env :=
  if code = .transport then e else { e with drawn := e.drawn + 1 }

/-- `Complete(code, byte)` (44_transaction.md R194). -/
def State.complete (s : State) (code : ErrCode) (byte : Byte) : State :=
  let st := s.status.completed code byte
  { s with
    status := st
    terr := terrAfter code s.env s.terr
    env := envAfter code s.env
    dst := destsAfter code s.cl.op s.dst
    dstUnspec := unspecAfter code s.cl.op s.dstUnspec
    err := none
    fsm := .done
    log := s.log ++ [.complete st.toWord] }

/-- `AbortExec(k, i)` and `AbortReset(e)`: TERR takes the `IoErr` of a TRANSPORT failure, then the operation completes with the
failure's code (44_transaction.md R193, R196). -/
def State.abort (s : State) (f : Failure) : State :=
  match f with
  | .transport e => State.complete { s with terr := e } f.code f.byte
  | .timeout => s.complete f.code f.byte
  | .errorResponse => s.complete f.code f.byte
  | .unexpectedByte _ => s.complete f.code f.byte
  | .malformedLength => s.complete f.code f.byte
  | .capacityExceeded => s.complete f.code f.byte

/-- `Fault(TERMINATOR, t)` (60_exceptions.md R217): no Release event, `SELECT_N` a draw, the destinations and TERR
unspecified, HALTED. -/
def State.takeFault (s : State) (t : Byte) : State :=
  let st := s.status.faulted t
  { s with
    status := st
    dst := []
    dstUnspec := true
    selectN := s.env.level
    terr := terrAfter .terminator s.env.dropLevel s.terr
    env := envAfter .terminator s.env.dropLevel
    fsm := .halted
    log := s.log ++ [.complete st.toWord] }

/-- The start of `Acquire()` (40_handshake.md R113), at the opening of a phase: no failure is pending. -/
def State.startAcquire (s : State) : State :=
  { s with err := none, fsm := if s.build.wv.waitNotReady then .acqNr else .acqR }

end Sys2Proof.Machine
end

