-- ==== Sys2Proof/Machine/Operands.lean ====
section
/-! DEFINITION. The operand forms: byte orders (00_scope.md R17, 30_encoding.md R93, R94), length prefixes (R83, 00_scope.md R21), the bytes each
send tag encodes to (42_param_encode.md R151 to R160), the two validity checks (R161, 43_param_decode.md R181), the request as its
wire units (30_encoding.md R86), the decode cursor (10_state.md R41), and the sending and receiving of one byte. -/

namespace Sys2Proof.Machine

open Sys2Proof.Config

/-! ### Byte orders -/

/-- `BE16` (00_scope.md R17). -/
def be16 (v : Word16) : List Byte := [v.extractLsb' 8 8, v.extractLsb' 0 8]

/-- `LE16`. -/
def le16 (v : Word16) : List Byte := [v.extractLsb' 0 8, v.extractLsb' 8 8]

/-- `BE32`. -/
def be32 (v : Word32) : List Byte :=
  [v.extractLsb' 24 8, v.extractLsb' 16 8, v.extractLsb' 8 8, v.extractLsb' 0 8]

/-- `LE32`. -/
def le32 (v : Word32) : List Byte :=
  [v.extractLsb' 0 8, v.extractLsb' 8 8, v.extractLsb' 16 8, v.extractLsb' 24 8]

/-- `(zext_16(b0) << 8) | zext_16(b1)` (30_encoding.md R93, R94). -/
def join16 (b0 b1 : Byte) : Word16 := (b0.zeroExtend 16 <<< 8) ||| b1.zeroExtend 16

/-- `(zext_32(b0) << 24) | (zext_32(b1) << 16) | (zext_32(b2) << 8) | zext_32(b3)` (30_encoding.md R94). -/
def join32 (b0 b1 b2 b3 : Byte) : Word32 :=
  (b0.zeroExtend 32 <<< 24) ||| (b1.zeroExtend 32 <<< 16) ||| (b2.zeroExtend 32 <<< 8) ||| b3.zeroExtend 32

/-- The `n`-th received byte of a scalar. -/
def nthByte (bs : List Byte) (n : Nat) : Byte := bs.getD n 0

/-- Scalar assembly from the received bytes, first received first (30_encoding.md R94). -/
def asmU8 (bs : List Byte) : Leaf := .u8 (nthByte bs 0)

def asmU16BE (bs : List Byte) : Leaf := .u16 (join16 (nthByte bs 0) (nthByte bs 1))

def asmU16LE (bs : List Byte) : Leaf := .u16 (join16 (nthByte bs 1) (nthByte bs 0))

def asmU32BE (bs : List Byte) : Leaf :=
  .u32 (join32 (nthByte bs 0) (nthByte bs 1) (nthByte bs 2) (nthByte bs 3))

def asmU32LE (bs : List Byte) : Leaf :=
  .u32 (join32 (nthByte bs 3) (nthByte bs 2) (nthByte bs 1) (nthByte bs 0))

/-! ### Length prefixes -/

/-- `MaxLen(m)` (00_scope.md R21). -/
def maxLen : Mode → Nat
  | .short => 255
  | .long => 65535

/-- The width of a prefix in bytes (42_param_encode.md R160). -/
def lenWidth : Mode → Nat
  | .short => 1
  | .long => 2

/-- `LenBytes(m, l)` (00_scope.md R21): the bytes `SendLen(m, l)` sends (42_param_encode.md R151). -/
def lenBytes (m : Mode) (l : Nat) : List Byte :=
  match m with
  | .short => [(BitVec.ofNat 16 l).extractLsb' 0 8]
  | .long => be16 (BitVec.ofNat 16 l)

/-! ### The send tags' bytes -/

/-- 42_param_encode.md R152. -/
def encU8 (v : Byte) (m : Mode) : List Byte := lenBytes m 1 ++ [v]

/-- 42_param_encode.md R153. -/
def encU16BE (v : Word16) (m : Mode) : List Byte := lenBytes m 2 ++ be16 v

/-- 42_param_encode.md R154. -/
def encU16LE (v : Word16) (m : Mode) : List Byte := lenBytes m 2 ++ le16 v

/-- 42_param_encode.md R155. -/
def encU32BE (v : Word32) (m : Mode) : List Byte := lenBytes m 4 ++ be32 v

/-- 42_param_encode.md R156. -/
def encU32LE (v : Word32) (m : Mode) : List Byte := lenBytes m 4 ++ le32 v

/-- 42_param_encode.md R157. -/
def encSpan (d : List Byte) (m : Mode) : List Byte := lenBytes m d.length ++ d

/-- 42_param_encode.md R158: the prefix includes the terminator. -/
def encNullterm (d : List Byte) (m : Mode) : List Byte := lenBytes m (d.length + 1) ++ d ++ [NUL]

/-- What `EncList` sends before the elements: under PREFIXED the length of the count and the elements, then the one-byte
element count (42_param_encode.md R159). `body` is the elements' length. -/
def encListHead (lf : ListForm) (m : Mode) (k body : Nat) : List Byte :=
  match lf with
  | .countOnly => [BitVec.ofNat 8 k]
  | .prefixed => lenBytes m (1 + body) ++ [BitVec.ofNat 8 k]

def SendElems.length : SendElems → Nat
  | .nil => 0
  | .cons _ rest => rest.length + 1

mutual
/-- `EncLen(d, m)` (42_param_encode.md R160). A descriptor of a reserved tag is never sent. -/
def SendDesc.encLen (lf : ListForm) (m : Mode) : SendDesc → Nat
  | .u8 _ => lenWidth m + 1
  | .u16be _ => lenWidth m + 2
  | .u16le _ => lenWidth m + 2
  | .u32be _ => lenWidth m + 4
  | .u32le _ => lenWidth m + 4
  | .span d => lenWidth m + d.length
  | .nullterm d => lenWidth m + d.length + 1
  | .list _ elems =>
    match lf with
    | .countOnly => 1 + elems.encLen lf m
    | .prefixed => lenWidth m + 1 + elems.encLen lf m
  | .reserved _ => 0
/-- `Σj EncLen(elems[j], m)`. -/
def SendElems.encLen (lf : ListForm) (m : Mode) : SendElems → Nat
  | .nil => 0
  | .cons d rest => d.encLen lf m + rest.encLen lf m
end

/-- A byte of the request, with the row it is a byte of. -/
abbrev Unit8 := Instr × Byte

/-- Name the bytes of one operation. -/
def named (i : Instr) (bs : List Byte) : List Unit8 := bs.map (fun b => (i, b))

mutual
/-- `EncodeParam(d, m)` (42_param_encode.md R150): every byte it sends, with the tag rule that sends it. -/
def SendDesc.units (lf : ListForm) (m : Mode) : SendDesc → List Unit8
  | .u8 v => named .encU8 (encU8 v m)
  | .u16be v => named .encU16BE (encU16BE v m)
  | .u16le v => named .encU16LE (encU16LE v m)
  | .u32be v => named .encU32BE (encU32BE v m)
  | .u32le v => named .encU32LE (encU32LE v m)
  | .span d => named .encSpan (encSpan d m)
  | .nullterm d => named .encNullterm (encNullterm d m)
  | .list _ elems =>
    named .encList (encListHead lf m elems.length (elems.encLen lf m)) ++ elems.units lf m
  | .reserved _ => []
/-- The elements of a sub-list, in the list's mode (42_param_encode.md R159). -/
def SendElems.units (lf : ListForm) (m : Mode) : SendElems → List Unit8
  | .nil => []
  | .cons d rest => d.units lf m ++ rest.units lf m
end

/-! ### Tags and validity -/

/-- The type tag of a send descriptor (30_encoding.md R84). -/
def SendDesc.tag : SendDesc → BitVec 4
  | .u8 _ => 0
  | .u16be _ => 1
  | .u16le _ => 2
  | .u32be _ => 3
  | .u32le _ => 4
  | .span _ => 5
  | .nullterm _ => 6
  | .list _ _ => 7
  | .reserved t => (1 : BitVec 1) ++ t

/-- The type tag of a receive descriptor (30_encoding.md R84). -/
def RecvDesc.tag : RecvDesc → BitVec 4
  | .u8 => 0
  | .u16be => 1
  | .u16le => 2
  | .u32be => 3
  | .u32le => 4
  | .span _ => 5
  | .nullterm _ => 6
  | .list _ _ => 7
  | .reserved t => (1 : BitVec 1) ++ t

/-- Tags 0x8 to 0xF (30_encoding.md R84). -/
def tagReserved (t : BitVec 4) : Bool := t.getLsbD 3

mutual
/-- `ValidSend(d, m)` (42_param_encode.md R161). A sub-list's element tag counts too (30_encoding.md R85). -/
def SendDesc.valid (lf : ListForm) (m : Mode) : SendDesc → Bool
  | .u8 _ => true
  | .u16be _ => true
  | .u16le _ => true
  | .u32be _ => true
  | .u32le _ => true
  | .span d => decide (d.length ≤ maxLen m)
  | .nullterm d => decide (d.length + 1 ≤ maxLen m)
  | .list et elems =>
    !tagReserved et && decide (elems.length ≤ 255) && elems.valid lf m et &&
      match lf with
      | .countOnly => true
      | .prefixed => decide (1 + elems.encLen lf m ≤ maxLen m)
  | .reserved _ => false
/-- Every element has the list's element tag and is itself valid. -/
def SendElems.valid (lf : ListForm) (m : Mode) (et : BitVec 4) : SendElems → Bool
  | .nil => true
  | .cons d rest => d.tag == et && d.valid lf m && rest.valid lf m et
end

/-- `ValidRecv(r)` (43_param_decode.md R181). -/
def RecvDesc.valid : RecvDesc → Bool
  | .u8 => true
  | .u16be => true
  | .u16le => true
  | .u32be => true
  | .u32le => true
  | .span cap => decide (cap ≤ 65535)
  | .nullterm cap => decide (cap ≤ 65535)
  | .list ecap ed => decide (ecap ≤ 255) && ed.valid
  | .reserved _ => false

mutual
/-- Whether a tag stands anywhere in a send descriptor: its own, a sub-list's element tag, an element's, at any depth
(30_encoding.md R85). -/
def SendDesc.holdsTag (t : BitVec 4) : SendDesc → Bool
  | .list et elems => t == 7 || t == et || elems.holdsTag t
  | .u8 _ => t == 0
  | .u16be _ => t == 1
  | .u16le _ => t == 2
  | .u32be _ => t == 3
  | .u32le _ => t == 4
  | .span _ => t == 5
  | .nullterm _ => t == 6
  | .reserved r => t == (1 : BitVec 1) ++ r
def SendElems.holdsTag (t : BitVec 4) : SendElems → Bool
  | .nil => false
  | .cons d rest => d.holdsTag t || rest.holdsTag t
end

/-- Whether a tag stands anywhere in a receive descriptor (30_encoding.md R85). -/
def RecvDesc.holdsTag (t : BitVec 4) : RecvDesc → Bool
  | .list _ ed => t == 7 || ed.holdsTag t
  | .u8 => t == 0
  | .u16be => t == 1
  | .u16le => t == 2
  | .u32be => t == 3
  | .u32le => t == 4
  | .span _ => t == 5
  | .nullterm _ => t == 6
  | .reserved r => t == (1 : BitVec 1) ++ r

/-- Whether a tag stands anywhere in SP or RP (30_encoding.md R85). -/
def State.holdsTag (s : State) (t : BitVec 4) : Bool :=
  s.sp.any (SendDesc.holdsTag t) || s.rp.any (RecvDesc.holdsTag t)

/-- `IssueCheckExec()` (44_transaction.md R191). -/
def State.issueCheck (s : State) : Bool :=
  s.sp.all (SendDesc.valid s.build.listForm s.cl.smode) && s.rp.all RecvDesc.valid

/-! ### The request -/

/-- `NS` as the count byte holds it (30_encoding.md R95). -/
def State.nsByte (s : State) : Byte := BitVec.ofNat 8 s.sp.length

/-- The command-identifier byte of the request: reply bit 0 (30_encoding.md R88). -/
def State.cmdReq (s : State) : Byte := s.cl.cmd.zeroExtend 8

/-- The command-identifier byte the reply must carry (41_frame_codec.md R137). -/
def State.cmdReply (s : State) : Byte := s.cl.cmd.zeroExtend 8 ||| REPLY_FLAG

/-- The request from START to END (30_encoding.md R86, 41_frame_codec.md R131). -/
def State.requestUnits (s : State) : List Unit8 :=
  [(.wireStart, START), (.wireCmdReq s.cl.cmd, s.cmdReq)]
    ++ (if s.build.wv.countByte then [(.wireCount s.nsByte, s.nsByte)] else [])
    ++ s.sp.flatMap (SendDesc.units s.build.listForm s.cl.smode)
    ++ [(.wireEnd, END)]

/-- The next byte of the request, if one is left: after END come pad bytes until TXN is 0 again (41_frame_codec.md R132). -/
def State.nextUnit (s : State) : Option Unit8 :=
  match s.requestUnits[s.txIdx]? with
  | some u => some u
  | none => if s.build.wv.pad4 ∧ s.txn ≠ 0 then some (.wirePad, PAD_BYTE) else none

/-- `SendByte(b)` (40_handshake.md R111). After the last byte the phase's Release comes next. -/
def State.sendByte (s : State) (b : Byte) : State :=
  match s.env.xchg with
  | .ok r =>
    let s' := { s.exchanged b (.ok r) with txn := s.txn + 1, txIdx := s.txIdx + 1 }
    if s'.nextUnit.isSome then s' else s'.goto .rel
  | .fail e => (s.exchanged b (.fail e)).failPhase (.transport e)

/-- Send the next byte of the request, which must be a byte of operation `i`. -/
def sendAs (i : Instr) (mnemonic : String) (s : State) : Host.Outcome State Fault Refusal :=
  if s.fsm = .tx then
    match s.nextUnit with
    | some (j, b) => if j = i then .next (s.sendByte b) else .refused (.outOfPosition mnemonic)
    | none => .refused (.outOfPosition mnemonic)
  else .refused (.outOfPosition mnemonic)

/-! ### The decode cursor -/

/-- The element descriptor `n` levels down. -/
def RecvDesc.descend : Nat → RecvDesc → Option RecvDesc
  | 0, r => some r
  | n + 1, .list _ ed => RecvDesc.descend n ed
  | _ + 1, _ => none

/-- The descriptor of receive parameter `p`, `depth` sub-lists down. -/
def slotDesc (rp : List RecvDesc) (p depth : Nat) : Option RecvDesc :=
  match rp[p]? with
  | some r => RecvDesc.descend depth r
  | none => none

/-- The slot of receive parameter `p` below the given stack. -/
def slotOf (p : Nat) (stack : List Frame) : Slot := p :: (stack.reverse.map Frame.j)

/-- The descriptor being decoded. -/
def State.curDesc (s : State) : Option RecvDesc := slotDesc s.rp s.cur.p s.cur.stack.length

/-- The slot being decoded. -/
def State.curSlot (s : State) : Slot := slotOf s.cur.p s.cur.stack

/-- Where the decoding of a descriptor begins: a sub-list without an outer prefix begins with its count
(43_param_decode.md R179). -/
def openStage (lf : ListForm) : Option RecvDesc → Stage
  | some (.list _ _) =>
    match lf with
    | .countOnly => .count
    | .prefixed => .len0
  | _ => .len0

/-- The start of `DecodeParam` at a slot: `state <- RX_PARAM` (43_param_decode.md R170). -/
def State.openItem (s : State) (p : Nat) (stack : List Frame) : State :=
  { s with
    fsm := .rxParam
    cur := { s.cur with
      p := p
      stack := stack
      i := 0
      stage := openStage s.build.listForm (slotDesc s.rp p stack.length)
      held := [] } }

/-- Receive parameter `p`, or the END check when there is none (41_frame_codec.md R134). -/
def State.openTop (s : State) (p : Nat) : State :=
  if p < s.rp.length then s.openItem p []
  else { s with fsm := .rxEnd, cur := { s.cur with p := p, stack := [], i := 0, stage := .len0, held := [] } }

/-- The bytes consumed differ from the outer prefix (43_param_decode.md R179). -/
def Frame.mismatch (f : Frame) : Bool :=
  match f.expect with
  | some t => f.consumed != t
  | none => false

/-- A parameter or an element is decoded: the next element, or the end of its sub-list (length check, RCNT) and so outwards,
or the next parameter (43_param_decode.md R179, 41_frame_codec.md R134). -/
def State.advance (s : State) : List Frame → State
  | [] => s.openTop (s.cur.p + 1)
  | f :: rest =>
    if f.j + 1 < f.k then s.openItem s.cur.p ({ f with j := f.j + 1 } :: rest)
    else if f.mismatch then s.failPhase .malformedLength
    else State.advance { s with dst := s.dst.set (slotOf s.cur.p rest) (.count f.k) } rest

/-- The current item is decoded. -/
def State.finishItem (s : State) : State := s.advance s.cur.stack

/-- The current item's destination takes a value, and the item is decoded. -/
def State.finishWith (s : State) (l : Leaf) : State :=
  State.finishItem { s with dst := s.dst.set s.curSlot l }

/-- `r.RLEN <- l`, and the item is decoded. -/
def State.finishRlen (s : State) (l : Nat) : State :=
  State.finishItem { s with dst := s.dst.setRlen s.curSlot l }

def State.toStage (s : State) (st : Stage) : State := { s with cur := { s.cur with stage := st, i := 0, held := [] } }

/-- One byte of `ReadLen(m)` (43_param_decode.md R171); `k` goes on once LEN is whole. -/
def State.readLen (s : State) (b : Byte) (k : State → State) : State :=
  match s.cur.stage with
  | .len1 => k { s with cur := { s.cur with len := join16 (nthByte s.cur.held 0) b } }
  | _ =>
    match s.cl.rmode with
    | .short => k { s with cur := { s.cur with len := b.zeroExtend 16 } }
    | .long => { s with cur := { s.cur with stage := .len1, held := [b] } }

/-- Whether the next byte is one of a length prefix. -/
def Stage.inLen : Stage → Bool
  | .len0 => true
  | .len1 => true
  | .count => false
  | .payload => false

/-- A scalar of `n` bytes: the prefix must be `n`, else MALFORMED_LENGTH with no payload byte read; then the payload
(43_param_decode.md R172 to R176). -/
def recvScalar (n : Nat) (asm : List Byte → Leaf) (b : Byte) (s : State) : State :=
  if s.cur.stage.inLen then
    s.readLen b (fun s => if s.cur.len.toNat ≠ n then s.failPhase .malformedLength else s.toStage .payload)
  else
    let bs := s.cur.held ++ [b]
    if s.cur.i + 1 < n then { s with cur := { s.cur with i := s.cur.i + 1, held := bs } }
    else s.finishWith (asm bs)

/-- 43_param_decode.md R172. -/
def recvU8 : Byte → State → State := recvScalar 1 asmU8

/-- 43_param_decode.md R173. -/
def recvU16BE : Byte → State → State := recvScalar 2 asmU16BE

/-- 43_param_decode.md R174. -/
def recvU16LE : Byte → State → State := recvScalar 2 asmU16LE

/-- 43_param_decode.md R175. -/
def recvU32BE : Byte → State → State := recvScalar 4 asmU32BE

/-- 43_param_decode.md R176. -/
def recvU32LE : Byte → State → State := recvScalar 4 asmU32LE

/-- 43_param_decode.md R177: the capacity is checked at the prefix; byte `i` goes to index `i`. -/
def recvSpan (cap : Nat) (b : Byte) (s : State) : State :=
  if s.cur.stage.inLen then
    s.readLen b (fun s =>
      if cap < s.cur.len.toNat then s.failPhase .capacityExceeded
      else if s.cur.len.toNat = 0 then s.finishRlen 0
      else s.toStage .payload)
  else
    let s' := { s with dst := s.dst.memWrite s.curSlot s.cur.i b }
    if s.cur.i + 1 < s.cur.len.toNat then { s' with cur := { s.cur with i := s.cur.i + 1 } }
    else s'.finishRlen s.cur.len.toNat

/-- 43_param_decode.md R178: a prefix of 0 is malformed; the capacity excludes the terminator; the last payload byte must be
NUL, else the fault. -/
def recvNullterm (cap : Nat) (b : Byte) (s : State) : State :=
  if s.cur.stage.inLen then
    s.readLen b (fun s =>
      if s.cur.len.toNat = 0 then s.failPhase .malformedLength
      else if cap < s.cur.len.toNat - 1 then s.failPhase .capacityExceeded
      else s.toStage .payload)
  else if s.cur.i + 1 < s.cur.len.toNat then
    { s with
      dst := s.dst.memWrite s.curSlot s.cur.i b
      cur := { s.cur with i := s.cur.i + 1 } }
  else if b ≠ NUL then s.takeFault b
  else s.finishRlen (s.cur.len.toNat - 1)

/-- 43_param_decode.md R179: the outer prefix under PREFIXED, the count with its capacity check, then the elements. The count
byte is the first byte the list consumes after its outer prefix. -/
def recvList (ecap : Nat) (b : Byte) (s : State) : State :=
  if s.cur.stage.inLen then s.readLen b (fun s => s.toStage .count)
  else if ecap < b.toNat then s.failPhase .capacityExceeded
  else
    let expect :=
      match s.build.listForm with
      | .countOnly => none
      | .prefixed => some s.cur.len.toNat
    let f : Frame := ⟨0, b.toNat, expect, 1⟩
    if b.toNat = 0 then s.advance (f :: s.cur.stack)
    else s.openItem s.cur.p (f :: s.cur.stack)

/-- One more byte read in this phase: every enclosing sub-list has consumed it (43_param_decode.md R179). -/
def State.consumed (s : State) : State :=
  { s with cur := { s.cur with stack := s.cur.stack.map (fun f => { f with consumed := f.consumed + 1 }) } }

/-- `ReadByte()` inside a parameter (40_handshake.md R112), then `h` on the byte. -/
def readParam (h : Byte → State → State) (s : State) : State :=
  match s.env.xchg with
  | .ok b => h b (s.exchanged s.build.rxFill (.ok b)).consumed
  | .fail e => (s.exchanged s.build.rxFill (.fail e)).failPhase (.transport e)

/-! ### The reply outside the parameters -/

/-- `ScanForStart()` as it begins: the ceiling is tested before a read (41_frame_codec.md R135, 60_exceptions.md R219). -/
def State.startScan (s : State) : State :=
  let s' := { s with fsm := .rxScan, scnt := 0 }
  if s.build.scanCeiling = 0 then s'.failPhase .timeout else s'

/-- A scan byte that is no sentinel: the next read, unless the ceiling is reached (41_frame_codec.md R135). -/
def State.scanSkip (s : State) : State :=
  let s' := { s with scnt := s.scnt + 1 }
  if s.scnt + 1 = s.build.scanCeiling then s'.failPhase .timeout else s'

/-- START found (41_frame_codec.md R135). -/
def State.scanFound (s : State) : State := { s with scnt := s.scnt + 1, fsm := .rxCmd }

/-- ERR read (41_frame_codec.md R135). -/
def State.scanErr (s : State) : State := State.failPhase { s with scnt := s.scnt + 1 } .errorResponse

/-- A byte read in the scan (41_frame_codec.md R135, R136). -/
def State.scanByte (s : State) (b : Byte) : State :=
  if b = START then s.scanFound
  else if b = ERR then s.scanErr
  else s.scanSkip

/-- The first receive parameter, with a fresh cursor (41_frame_codec.md R134). -/
def State.startParams (s : State) : State := s.openTop 0

/-- `CheckCmd()` (41_frame_codec.md R137). -/
def State.checkCmd (s : State) (c : Byte) : State :=
  if c ≠ s.cmdReply then s.failPhase (.unexpectedByte c)
  else if s.build.wv.countByte then s.goto .rxCount
  else s.startParams

/-- `CheckCount()` (41_frame_codec.md R138). -/
def State.checkCount (s : State) (n : Byte) : State :=
  if n.toNat ≠ s.rp.length then s.failPhase (.unexpectedByte n) else s.startParams

/-- `CheckEnd()` (41_frame_codec.md R139); nothing more is read in the phase (R140). -/
def State.checkEnd (s : State) (e : Byte) : State :=
  if e ≠ END then s.failPhase (.unexpectedByte e) else s.goto .rel

/-- `DecodeParam(r, m)` on one byte (43_param_decode.md R170): the descriptor alone decides how it is read. -/
def paramByte (b : Byte) (mnemonic : String) (s : State) : Host.Outcome State Fault Refusal :=
  match s.curDesc with
  | some .u8 => .next (recvU8 b s)
  | some .u16be => .next (recvU16BE b s)
  | some .u16le => .next (recvU16LE b s)
  | some .u32be => .next (recvU32BE b s)
  | some .u32le => .next (recvU32LE b s)
  | some (.span cap) => .next (recvSpan cap b s)
  | some (.nullterm cap) => .next (recvNullterm cap b s)
  | some (.list ecap _) => .next (recvList ecap b s)
  | some (.reserved _) => .refused (.outOfPosition mnemonic)
  | none => .refused (.outOfPosition mnemonic)

/-- A reply byte `b` that an exchange brings, judged by its position (30_encoding.md R97). The exchange is part of it. -/
def receive (b : Byte) (mnemonic : String) (s : State) : Host.Outcome State Fault Refusal :=
  let s' := s.exchanged s.build.rxFill (.ok b)
  match s.fsm with
  | .rxScan => .next (s'.scanByte b)
  | .rxCmd => .next (s'.checkCmd b)
  | .rxCount => .next (s'.checkCount b)
  | .rxParam => paramByte b mnemonic s'.consumed
  | .rxEnd => .next (s'.checkEnd b)
  | _ => .refused (.outOfPosition mnemonic)

/-- A one-byte wire unit: in the request phase it is sent where it is the request's next byte, in the reply phase it is the byte
received. -/
def wireUnit (b : Byte) (mnemonic : String) (s : State) : Host.Outcome State Fault Refusal :=
  if s.fsm = .tx then
    match s.nextUnit with
    | some (_, c) => if c = b then .next (s.sendByte b) else .refused (.outOfPosition mnemonic)
    | none => .refused (.outOfPosition mnemonic)
  else receive b mnemonic s

end Sys2Proof.Machine
end

