-- ==== Sys2Proof/Machine/HostOps.lean ====
section
/-! DEFINITION. The command word's instructions: Issue (44_transaction.md R198), EXECUTE (R190, R191), RESET_PEER (R195), the reserved
values (R197), and the reserved type tag, which the issue check of EXECUTE meets (30_encoding.md R85). -/

namespace Sys2Proof.Machine

open Sys2Proof.Config

/-- What Issue latches: CL, without RSV and RB (44_transaction.md R198, 10_state.md R37). -/
def latchOf (cmd : BitVec 7) (rmode smode : Mode) (op : BitVec 4) : CmdLatch := ⟨op, smode, rmode, cmd⟩

/-- Issue's own effect: the ISSUE event, BUSY and DONE, and CL (44_transaction.md R198). -/
def State.latched (s : State) (w : Word16) (cl : CmdLatch) : State :=
  { s with status := s.status.issued, cl := cl, log := s.log ++ [.issue w] }

/-- A CMDW write has no effect and is not logged while HALTED or BUSY (44_transaction.md R198). -/
def State.ignoresCmdw (s : State) : Bool := s.fsm == .halted || s.status.busy

/-- `Complete(ILLEGAL_COMMAND, none)` (44_transaction.md R197). -/
def State.illegal (s : State) : State := s.complete .illegalCommand 0

/-- The start of a checked EXECUTE: the request phase's Acquire (44_transaction.md R190). No receive destination has been written by
the current EXECUTE yet, so none holds a value (10_state.md R48). -/
def State.startExecute (s : State) : State := State.startAcquire { s with dst := [], dstUnspec := false, ph := .req }

/-- `Execute()` (44_transaction.md R190): the issue check, then the request phase. -/
def State.executeOp (s : State) : State := if s.issueCheck then s.startExecute else s.illegal

/-- `ResetPeer()` (44_transaction.md R195): the sequence begins with releasing Select (40_handshake.md R117). -/
def State.resetPeerOp (s : State) : State := s.goto .rpSel

/-- `Issue(w)` (44_transaction.md R198) for the operation `go` that `w` selects. -/
def issue (w : Word16) (cl : CmdLatch) (go : State → State) (s : State) : Host.Outcome State Fault Refusal :=
  if s.ignoresCmdw then .next s else .next (go (s.latched w cl))

/-- `RESET_PEER` (44_transaction.md R195). -/
def execResetPeer (rb : BitVec 1) (cmd : BitVec 7) (rmode smode : Mode) (s : State) : Host.Outcome State Fault Refusal :=
  issue (cmdwWord rb cmd 0 rmode smode 0x1) (latchOf cmd rmode smode 0x1) State.resetPeerOp s

/-- `EXECUTE` (44_transaction.md R190). -/
def execExecute (rb : BitVec 1) (cmd : BitVec 7) (rmode smode : Mode) (s : State) : Host.Outcome State Fault Refusal :=
  issue (cmdwWord rb cmd 0 rmode smode 0x2) (latchOf cmd rmode smode 0x2) State.executeOp s

/-- OP = 0x0 is reserved (44_transaction.md R197). -/
def execIllegalOp0 (rb : BitVec 1) (cmd : BitVec 7) (rsv : BitVec 2) (rmode smode : Mode) (s : State) :
    Host.Outcome State Fault Refusal :=
  issue (cmdwWord rb cmd rsv rmode smode 0x0) (latchOf cmd rmode smode 0x0) State.illegal s

/-- OP = 0x3 is reserved (44_transaction.md R197). -/
def execIllegalOp3 (rb : BitVec 1) (cmd : BitVec 7) (rsv : BitVec 2) (rmode smode : Mode) (s : State) :
    Host.Outcome State Fault Refusal :=
  issue (cmdwWord rb cmd rsv rmode smode 0x3) (latchOf cmd rmode smode 0x3) State.illegal s

/-- OP = 0x4 is reserved (44_transaction.md R197). -/
def execIllegalOp4 (rb : BitVec 1) (cmd : BitVec 7) (rsv : BitVec 2) (rmode smode : Mode) (s : State) :
    Host.Outcome State Fault Refusal :=
  issue (cmdwWord rb cmd rsv rmode smode 0x4) (latchOf cmd rmode smode 0x4) State.illegal s

/-- OP = 0x5 is reserved (44_transaction.md R197). -/
def execIllegalOp5 (rb : BitVec 1) (cmd : BitVec 7) (rsv : BitVec 2) (rmode smode : Mode) (s : State) :
    Host.Outcome State Fault Refusal :=
  issue (cmdwWord rb cmd rsv rmode smode 0x5) (latchOf cmd rmode smode 0x5) State.illegal s

/-- OP = 0x6 is reserved (44_transaction.md R197). -/
def execIllegalOp6 (rb : BitVec 1) (cmd : BitVec 7) (rsv : BitVec 2) (rmode smode : Mode) (s : State) :
    Host.Outcome State Fault Refusal :=
  issue (cmdwWord rb cmd rsv rmode smode 0x6) (latchOf cmd rmode smode 0x6) State.illegal s

/-- OP = 0x7 is reserved (44_transaction.md R197). -/
def execIllegalOp7 (rb : BitVec 1) (cmd : BitVec 7) (rsv : BitVec 2) (rmode smode : Mode) (s : State) :
    Host.Outcome State Fault Refusal :=
  issue (cmdwWord rb cmd rsv rmode smode 0x7) (latchOf cmd rmode smode 0x7) State.illegal s

/-- OP = 0x8 is reserved (44_transaction.md R197). -/
def execIllegalOp8 (rb : BitVec 1) (cmd : BitVec 7) (rsv : BitVec 2) (rmode smode : Mode) (s : State) :
    Host.Outcome State Fault Refusal :=
  issue (cmdwWord rb cmd rsv rmode smode 0x8) (latchOf cmd rmode smode 0x8) State.illegal s

/-- OP = 0x9 is reserved (44_transaction.md R197). -/
def execIllegalOp9 (rb : BitVec 1) (cmd : BitVec 7) (rsv : BitVec 2) (rmode smode : Mode) (s : State) :
    Host.Outcome State Fault Refusal :=
  issue (cmdwWord rb cmd rsv rmode smode 0x9) (latchOf cmd rmode smode 0x9) State.illegal s

/-- OP = 0xA is reserved (44_transaction.md R197). -/
def execIllegalOpA (rb : BitVec 1) (cmd : BitVec 7) (rsv : BitVec 2) (rmode smode : Mode) (s : State) :
    Host.Outcome State Fault Refusal :=
  issue (cmdwWord rb cmd rsv rmode smode 0xA) (latchOf cmd rmode smode 0xA) State.illegal s

/-- OP = 0xB is reserved (44_transaction.md R197). -/
def execIllegalOpB (rb : BitVec 1) (cmd : BitVec 7) (rsv : BitVec 2) (rmode smode : Mode) (s : State) :
    Host.Outcome State Fault Refusal :=
  issue (cmdwWord rb cmd rsv rmode smode 0xB) (latchOf cmd rmode smode 0xB) State.illegal s

/-- OP = 0xC is reserved (44_transaction.md R197). -/
def execIllegalOpC (rb : BitVec 1) (cmd : BitVec 7) (rsv : BitVec 2) (rmode smode : Mode) (s : State) :
    Host.Outcome State Fault Refusal :=
  issue (cmdwWord rb cmd rsv rmode smode 0xC) (latchOf cmd rmode smode 0xC) State.illegal s

/-- OP = 0xD is reserved (44_transaction.md R197). -/
def execIllegalOpD (rb : BitVec 1) (cmd : BitVec 7) (rsv : BitVec 2) (rmode smode : Mode) (s : State) :
    Host.Outcome State Fault Refusal :=
  issue (cmdwWord rb cmd rsv rmode smode 0xD) (latchOf cmd rmode smode 0xD) State.illegal s

/-- OP = 0xE is reserved (44_transaction.md R197). -/
def execIllegalOpE (rb : BitVec 1) (cmd : BitVec 7) (rsv : BitVec 2) (rmode smode : Mode) (s : State) :
    Host.Outcome State Fault Refusal :=
  issue (cmdwWord rb cmd rsv rmode smode 0xE) (latchOf cmd rmode smode 0xE) State.illegal s

/-- OP = 0xF is reserved (44_transaction.md R197). -/
def execIllegalOpF (rb : BitVec 1) (cmd : BitVec 7) (rsv : BitVec 2) (rmode smode : Mode) (s : State) :
    Host.Outcome State Fault Refusal :=
  issue (cmdwWord rb cmd rsv rmode smode 0xF) (latchOf cmd rmode smode 0xF) State.illegal s

/-- RSV bit 6 set: illegal whatever OP is (30_encoding.md R82). -/
def execIllegalRsv6 (rb : BitVec 1) (cmd : BitVec 7) (rsv7 : BitVec 1) (rmode smode : Mode) (op : BitVec 4) (s : State) :
    Host.Outcome State Fault Refusal :=
  issue (cmdwWord rb cmd (rsv7 ++ (1 : BitVec 1)) rmode smode op) (latchOf cmd rmode smode op) State.illegal s

/-- RSV bit 7 set: illegal whatever OP is (30_encoding.md R82). -/
def execIllegalRsv7 (rb : BitVec 1) (cmd : BitVec 7) (rsv6 : BitVec 1) (rmode smode : Mode) (op : BitVec 4) (s : State) :
    Host.Outcome State Fault Refusal :=
  issue (cmdwWord rb cmd ((1 : BitVec 1) ++ rsv6) rmode smode op) (latchOf cmd rmode smode op) State.illegal s

/-- An EXECUTE has been latched and no call made: where its issue check runs (44_transaction.md R190, R191). -/
def State.atIssueCheck (s : State) : Bool :=
  s.status.busy && s.cl.op == 0x2 && (s.fsm == .idle || s.fsm == .done)

/-- A reserved type tag `8 + t` in SP or RP: the EXECUTE that meets it completes with ILLEGAL_COMMAND, with no line activity
(30_encoding.md R85). -/
def execTagReserved (t : BitVec 3) (s : State) : Host.Outcome State Fault Refusal :=
  if s.atIssueCheck ∧ s.holdsTag ((1 : BitVec 1) ++ t) then .next s.illegal
  else .refused (.outOfPosition "TAG.RESERVED")

end Sys2Proof.Machine
end

