-- ==== Sys2Proof/Machine/ParamDecode.lean ====
section
/-! DEFINITION. The receive tags (43_param_decode.md R170 to R179). A receive rule is one `ReadByte` after another, so an instruction is run once
for each byte it reads; the decode cursor holds its place (10_state.md R41, log entry 17). -/

namespace Sys2Proof.Machine

/-- The descriptor being decoded, while the block decodes parameters. -/
def State.paramDesc (s : State) : Option RecvDesc := if s.fsm = .rxParam then s.curDesc else none

/-- `DEC.U8` (43_param_decode.md R172): its next byte is read. -/
def execDecU8 (s : State) : Host.Outcome State Fault Refusal :=
  match s.paramDesc with
  | some .u8 => .next (readParam recvU8 s)
  | _ => .refused (.outOfPosition "DEC.U8")

/-- `DEC.U16BE` (43_param_decode.md R173): its next byte is read. -/
def execDecU16BE (s : State) : Host.Outcome State Fault Refusal :=
  match s.paramDesc with
  | some .u16be => .next (readParam recvU16BE s)
  | _ => .refused (.outOfPosition "DEC.U16BE")

/-- `DEC.U16LE` (43_param_decode.md R174): its next byte is read. -/
def execDecU16LE (s : State) : Host.Outcome State Fault Refusal :=
  match s.paramDesc with
  | some .u16le => .next (readParam recvU16LE s)
  | _ => .refused (.outOfPosition "DEC.U16LE")

/-- `DEC.U32BE` (43_param_decode.md R175): its next byte is read. -/
def execDecU32BE (s : State) : Host.Outcome State Fault Refusal :=
  match s.paramDesc with
  | some .u32be => .next (readParam recvU32BE s)
  | _ => .refused (.outOfPosition "DEC.U32BE")

/-- `DEC.U32LE` (43_param_decode.md R176): its next byte is read. -/
def execDecU32LE (s : State) : Host.Outcome State Fault Refusal :=
  match s.paramDesc with
  | some .u32le => .next (readParam recvU32LE s)
  | _ => .refused (.outOfPosition "DEC.U32LE")

/-- `DEC.SPAN` (43_param_decode.md R177): its next byte is read. -/
def execDecSpan (s : State) : Host.Outcome State Fault Refusal :=
  match s.paramDesc with
  | some (.span cap) => .next (readParam (recvSpan cap) s)
  | _ => .refused (.outOfPosition "DEC.SPAN")

/-- `DEC.NULLTERM` (43_param_decode.md R178): its next byte is read. -/
def execDecNullterm (s : State) : Host.Outcome State Fault Refusal :=
  match s.paramDesc with
  | some (.nullterm cap) => .next (readParam (recvNullterm cap) s)
  | _ => .refused (.outOfPosition "DEC.NULLTERM")

/-- `DEC.LIST` (43_param_decode.md R179): its next byte is read. -/
def execDecList (s : State) : Host.Outcome State Fault Refusal :=
  match s.paramDesc with
  | some (.list ecap _) => .next (readParam (recvList ecap) s)
  | _ => .refused (.outOfPosition "DEC.LIST")

end Sys2Proof.Machine
end

