-- ==== Sys2Proof/Machine/ParamEncode.lean ====
section
/-! DEFINITION. The send tags (42_param_encode.md R150 to R159). A send rule is one `SendByte` after another, so an instruction is run once for
each byte it sends: `State.nextUnit` says which operation the request's next byte belongs to (log entry 17). -/

namespace Sys2Proof.Machine

/-- `ENC.U8` (42_param_encode.md R152): its next byte goes out. -/
def execEncU8 (s : State) : Host.Outcome State Fault Refusal := sendAs .encU8 "ENC.U8" s

/-- `ENC.U16BE` (42_param_encode.md R153): its next byte goes out. -/
def execEncU16BE (s : State) : Host.Outcome State Fault Refusal := sendAs .encU16BE "ENC.U16BE" s

/-- `ENC.U16LE` (42_param_encode.md R154): its next byte goes out. -/
def execEncU16LE (s : State) : Host.Outcome State Fault Refusal := sendAs .encU16LE "ENC.U16LE" s

/-- `ENC.U32BE` (42_param_encode.md R155): its next byte goes out. -/
def execEncU32BE (s : State) : Host.Outcome State Fault Refusal := sendAs .encU32BE "ENC.U32BE" s

/-- `ENC.U32LE` (42_param_encode.md R156): its next byte goes out. -/
def execEncU32LE (s : State) : Host.Outcome State Fault Refusal := sendAs .encU32LE "ENC.U32LE" s

/-- `ENC.SPAN` (42_param_encode.md R157): its next byte goes out. -/
def execEncSpan (s : State) : Host.Outcome State Fault Refusal := sendAs .encSpan "ENC.SPAN" s

/-- `ENC.NULLTERM` (42_param_encode.md R158): its next byte goes out. -/
def execEncNullterm (s : State) : Host.Outcome State Fault Refusal := sendAs .encNullterm "ENC.NULLTERM" s

/-- `ENC.LIST` (42_param_encode.md R159): its next byte goes out. -/
def execEncList (s : State) : Host.Outcome State Fault Refusal := sendAs .encList "ENC.LIST" s

end Sys2Proof.Machine
end

