-- ==== Sys2Proof/Machine/Wire.lean ====
section
/-! DEFINITION. The wire's rows (30_encoding.md R86 to R97). In the request phase a unit is sent where it is the request's next byte; in the reply
phase it is what an exchange has brought, and its position judges it: "an `ERR` byte after `START` is not a sentinel" (R97). The two
bytes of a long prefix are two runs of WIRE.LEN_LONG (log entry 14). -/

namespace Sys2Proof.Machine

open Sys2Proof.Config

/-- `WIRE.START`: sent first (41_frame_codec.md R131), found by the scan (R135, R136). -/
def execWireStart (s : State) : Host.Outcome State Fault Refusal := wireUnit START "WIRE.START" s

/-- `WIRE.ERR`: ends the scan with ERROR_RESPONSE (41_frame_codec.md R135). -/
def execWireErr (s : State) : Host.Outcome State Fault Refusal := wireUnit ERR "WIRE.ERR" s

/-- `WIRE.END`: sent last before the pad (41_frame_codec.md R131), checked last (R139). -/
def execWireEnd (s : State) : Host.Outcome State Fault Refusal := wireUnit END "WIRE.END" s

/-- `WIRE.SKIP`: skipped by the scan (41_frame_codec.md R135). -/
def execWireSkip (b : Byte) (s : State) : Host.Outcome State Fault Refusal := wireUnit b "WIRE.SKIP" s

/-- `WIRE.CMD_REQ`: sent second (41_frame_codec.md R131); a mismatch where the reply's identifier is due (R137). -/
def execWireCmdReq (opc : BitVec 7) (s : State) : Host.Outcome State Fault Refusal :=
  wireUnit ((0 : BitVec 1) ++ opc) "WIRE.CMD_REQ" s

/-- `WIRE.CMD_REPLY`: must equal CL.CMD with the reply bit (41_frame_codec.md R137). -/
def execWireCmdReply (opc : BitVec 7) (s : State) : Host.Outcome State Fault Refusal :=
  wireUnit ((1 : BitVec 1) ++ opc) "WIRE.CMD_REPLY" s

/-- `WIRE.COUNT`: sent as NS (41_frame_codec.md R131), must equal NR (R138). -/
def execWireCount (n : Byte) (s : State) : Host.Outcome State Fault Refusal := wireUnit n "WIRE.COUNT" s

/-- `WIRE.LEN_SHORT`: a short prefix (42_param_encode.md R151, 43_param_decode.md R171). -/
def execWireLenShort (l : Byte) (s : State) : Host.Outcome State Fault Refusal := wireUnit l "WIRE.LEN_SHORT" s

/-- Whether the request goes on with the byte `b` at index `i`. -/
def State.requestByteIs (s : State) (i : Nat) (b : Byte) : Bool :=
  match s.requestUnits[i]? with
  | some (_, c) => c == b
  | none => false

/-- `WIRE.LEN_LONG`: a long prefix, most significant byte first (42_param_encode.md R151, 43_param_decode.md R171); its next byte is
exchanged. -/
def execWireLenLong (l : Word16) (s : State) : Host.Outcome State Fault Refusal :=
  let hi : Byte := l.extractLsb' 8 8
  let lo : Byte := l.extractLsb' 0 8
  if s.fsm = .tx then
    if s.requestByteIs s.txIdx hi ∧ s.requestByteIs (s.txIdx + 1) lo then .next (s.sendByte hi)
    else if 0 < s.txIdx ∧ s.requestByteIs (s.txIdx - 1) hi ∧ s.requestByteIs s.txIdx lo then .next (s.sendByte lo)
    else .refused (.outOfPosition "WIRE.LEN_LONG")
  else if s.fsm = .rxParam ∧ s.cl.rmode = .long ∧ s.cur.stage = .len0 then receive hi "WIRE.LEN_LONG" s
  else if s.fsm = .rxParam ∧ s.cl.rmode = .long ∧ s.cur.stage = .len1 ∧ s.cur.held = [hi] then
    receive lo "WIRE.LEN_LONG" s
  else .refused (.outOfPosition "WIRE.LEN_LONG")

/-- `WIRE.LIST_COUNT`: the element count of a sub-list (42_param_encode.md R159, 43_param_decode.md R179). -/
def execWireListCount (k : Byte) (s : State) : Host.Outcome State Fault Refusal := wireUnit k "WIRE.LIST_COUNT" s

/-- `WIRE.NUL`: the null terminator (42_param_encode.md R158, 43_param_decode.md R178). -/
def execWireNul (s : State) : Host.Outcome State Fault Refusal := wireUnit NUL "WIRE.NUL" s

/-- `WIRE.PAD`: the request pad (41_frame_codec.md R132). -/
def execWirePad (s : State) : Host.Outcome State Fault Refusal := wireUnit PAD_BYTE "WIRE.PAD" s

end Sys2Proof.Machine
end

