-- ==== Sys2Proof/Machine/Dispatch.lean ====
section
/-! DEFINITION. `exec`: one arm per row of opcode_table.json, each one direct call of its meaning. -/

namespace Sys2Proof.Machine

def exec (i : Instr) (s : State) : Host.Outcome State Fault Refusal :=
  match i with
  | .resetPeer rb cmd rmode smode => Sys2Proof.Machine.execResetPeer rb cmd rmode smode s
  | .execute rb cmd rmode smode => Sys2Proof.Machine.execExecute rb cmd rmode smode s
  | .illegalOp0 rb cmd rsv rmode smode => Sys2Proof.Machine.execIllegalOp0 rb cmd rsv rmode smode s
  | .illegalOp3 rb cmd rsv rmode smode => Sys2Proof.Machine.execIllegalOp3 rb cmd rsv rmode smode s
  | .illegalOp4 rb cmd rsv rmode smode => Sys2Proof.Machine.execIllegalOp4 rb cmd rsv rmode smode s
  | .illegalOp5 rb cmd rsv rmode smode => Sys2Proof.Machine.execIllegalOp5 rb cmd rsv rmode smode s
  | .illegalOp6 rb cmd rsv rmode smode => Sys2Proof.Machine.execIllegalOp6 rb cmd rsv rmode smode s
  | .illegalOp7 rb cmd rsv rmode smode => Sys2Proof.Machine.execIllegalOp7 rb cmd rsv rmode smode s
  | .illegalOp8 rb cmd rsv rmode smode => Sys2Proof.Machine.execIllegalOp8 rb cmd rsv rmode smode s
  | .illegalOp9 rb cmd rsv rmode smode => Sys2Proof.Machine.execIllegalOp9 rb cmd rsv rmode smode s
  | .illegalOpA rb cmd rsv rmode smode => Sys2Proof.Machine.execIllegalOpA rb cmd rsv rmode smode s
  | .illegalOpB rb cmd rsv rmode smode => Sys2Proof.Machine.execIllegalOpB rb cmd rsv rmode smode s
  | .illegalOpC rb cmd rsv rmode smode => Sys2Proof.Machine.execIllegalOpC rb cmd rsv rmode smode s
  | .illegalOpD rb cmd rsv rmode smode => Sys2Proof.Machine.execIllegalOpD rb cmd rsv rmode smode s
  | .illegalOpE rb cmd rsv rmode smode => Sys2Proof.Machine.execIllegalOpE rb cmd rsv rmode smode s
  | .illegalOpF rb cmd rsv rmode smode => Sys2Proof.Machine.execIllegalOpF rb cmd rsv rmode smode s
  | .illegalRsv6 rb cmd rsv7 rmode smode op => Sys2Proof.Machine.execIllegalRsv6 rb cmd rsv7 rmode smode op s
  | .illegalRsv7 rb cmd rsv6 rmode smode op => Sys2Proof.Machine.execIllegalRsv7 rb cmd rsv6 rmode smode op s
  | .encU8 => Sys2Proof.Machine.execEncU8 s
  | .encU16BE => Sys2Proof.Machine.execEncU16BE s
  | .encU16LE => Sys2Proof.Machine.execEncU16LE s
  | .encU32BE => Sys2Proof.Machine.execEncU32BE s
  | .encU32LE => Sys2Proof.Machine.execEncU32LE s
  | .encSpan => Sys2Proof.Machine.execEncSpan s
  | .encNullterm => Sys2Proof.Machine.execEncNullterm s
  | .encList => Sys2Proof.Machine.execEncList s
  | .decU8 => Sys2Proof.Machine.execDecU8 s
  | .decU16BE => Sys2Proof.Machine.execDecU16BE s
  | .decU16LE => Sys2Proof.Machine.execDecU16LE s
  | .decU32BE => Sys2Proof.Machine.execDecU32BE s
  | .decU32LE => Sys2Proof.Machine.execDecU32LE s
  | .decSpan => Sys2Proof.Machine.execDecSpan s
  | .decNullterm => Sys2Proof.Machine.execDecNullterm s
  | .decList => Sys2Proof.Machine.execDecList s
  | .tagReserved t => Sys2Proof.Machine.execTagReserved t s
  | .wireStart => Sys2Proof.Machine.execWireStart s
  | .wireErr => Sys2Proof.Machine.execWireErr s
  | .wireEnd => Sys2Proof.Machine.execWireEnd s
  | .wireSkip b => Sys2Proof.Machine.execWireSkip b s
  | .wireCmdReq opc => Sys2Proof.Machine.execWireCmdReq opc s
  | .wireCmdReply opc => Sys2Proof.Machine.execWireCmdReply opc s
  | .wireCount n => Sys2Proof.Machine.execWireCount n s
  | .wireLenShort l => Sys2Proof.Machine.execWireLenShort l s
  | .wireLenLong l => Sys2Proof.Machine.execWireLenLong l s
  | .wireListCount k => Sys2Proof.Machine.execWireListCount k s
  | .wireNul => Sys2Proof.Machine.execWireNul s
  | .wirePad => Sys2Proof.Machine.execWirePad s

end Sys2Proof.Machine
end

