-- ==== Sys2Proof/Machine/Handshake.lean ====
section
/-! DEFINITION. The sequencer's states that meet no code word: acquire and release (40_handshake.md R113, R114, R116), the peer reset sequence
(R117). Each function is one primitive call with the pure computation after it. -/

namespace Sys2Proof.Machine

open Sys2Proof.Config

/-- ACQ_NR: wait for Ready deasserted, with no bound (40_handshake.md R113). -/
def acqNrStep (s : State) : State :=
  match s.env.ready with
  | .ok true => s.sampled (.ok true)
  | .ok false => (s.sampled (.ok false)).goto .acqR
  | .fail e => (s.sampled (.fail e)).failPhase (.transport e)

/-- ACQ_R: wait for Ready asserted, with no bound (40_handshake.md R113). -/
def acqRStep (s : State) : State :=
  match s.env.ready with
  | .ok true => (s.sampled (.ok true)).goto .acqSel
  | .ok false => s.sampled (.ok false)
  | .fail e => (s.sampled (.fail e)).failPhase (.transport e)

/-- The body of the phase begins: `SendFrame` with TXN at 0 (41_frame_codec.md R131), or `RecvFrame` with its scan (R134). -/
def State.startBody (s : State) : State :=
  match s.ph with
  | .req => { s with txn := 0, txIdx := 0, fsm := .tx }
  | .rep => s.startScan

/-- ACQ_SEL: assert Select (40_handshake.md R113). -/
def acqSelStep (s : State) : State :=
  match s.env.write with
  | .ok => (s.wrote .selectN false .ok).startBody
  | .fail e l => (s.wrote .selectN false (.fail e l)).failPhase (.transport e)

/-- The phase has ended without a failure, its Release included: the reply phase, or completion (44_transaction.md R190). -/
def State.phaseDone (s : State) : State :=
  match s.ph with
  | .req => State.startAcquire { s with ph := .rep }
  | .rep => s.complete .ok 0

/-- REL: deassert Select; the first failure wins, a Release failure counts only if there is none before it
(40_handshake.md R116, 60_exceptions.md R219). -/
def relStep (s : State) : State :=
  match s.env.write, s.err with
  | .ok, none => (s.wrote .selectN true .ok).phaseDone
  | .ok, some f => (s.wrote .selectN true .ok).abort f
  | .fail e l, none => (s.wrote .selectN true (.fail e l)).abort (.transport e)
  | .fail e l, some f => (s.wrote .selectN true (.fail e l)).abort f

/-- One line write of the peer reset sequence: it stops at the first failed write (40_handshake.md R117, 44_transaction.md R196). -/
def resetWrite (line : Line) (level : Bool) (after : Fsm) (s : State) : State :=
  match s.env.write with
  | .ok => (s.wrote line level .ok).goto after
  | .fail e l => (s.wrote line level (.fail e l)).abort (.transport e)

/-- RP_SEL: release Select. -/
def rpSelStep (s : State) : State := resetWrite .selectN true .rpRlow s

/-- RP_RLOW: drive Reset low. -/
def rpRlowStep (s : State) : State := resetWrite .resetN false .rpPulse s

/-- RP_PULSE: the pulse time. -/
def rpPulseStep (s : State) : State := (s.delayed s.build.tRstMs).goto .rpRhigh

/-- RP_RHIGH: drive Reset high. -/
def rpRhighStep (s : State) : State := resetWrite .resetN true .rpBoot s

/-- RP_BOOT: the boot time, then `Complete(OK, none)` (44_transaction.md R195). -/
def rpBootStep (s : State) : State := (s.delayed s.build.tBootMs).complete .ok 0

end Sys2Proof.Machine
end

