-- ==== Sys2Proof/Machine/HostPort.lean ====
section
/-! DEFINITION. The host's port: the three registers (10_state.md R42), the stores (20_memory.md R61, R62, R71) and the host's duties
(44_transaction.md R199). A CMDW write is the decoder's business (Machine/Step.lean). -/

namespace Sys2Proof.Machine

/-- The registers' numbers (10_state.md R42). -/
def HostReg.no : HostReg → Nat
  | .cmdw => 0
  | .status => 1
  | .terr => 2

/-- What the host reads is recorded. -/
def State.hostRead (s : State) (r : HostRead) : State := { s with hostLog := s.hostLog ++ [r] }

/-- A register read: CMDW reads 0; STATUS at any time (H5); TERR only when CODE = TRANSPORT (H6). -/
def readReg (r : HostReg) (s : State) : Host.Outcome State Fault Refusal :=
  match r with
  | .cmdw => .next (s.hostRead (.word 0))
  | .status => .next (s.hostRead (.word s.status.toWord))
  | .terr =>
    if s.status.code = .transport then .next (s.hostRead (.ioErr s.terr)) else .refused (.brokenDuty .h6)

/-- The host writes the send list, NS included, while the block is not BUSY (H1, H3). -/
def writeSend (l : List SendDesc) (s : State) : Host.Outcome State Fault Refusal :=
  if s.status.busy then .refused (.brokenDuty .h3)
  else if 255 < l.length then .refused .storeRange
  else .next { s with sp := l, spWritten := true }

/-- The host writes the receive list, NR included, while the block is not BUSY (H1, H3). The destinations of the new descriptors
hold no value (10_state.md R48). -/
def writeRecv (l : List RecvDesc) (s : State) : Host.Outcome State Fault Refusal :=
  if s.status.busy then .refused (.brokenDuty .h3)
  else if 255 < l.length then .refused .storeRange
  else .next { s with rp := l, dst := [], dstUnspec := false, rpWritten := true }

/-- H1 broken: EXECUTE (30_encoding.md R81) before the host has written SP and RP. A HALTED block ignores the write all the same
(60_exceptions.md R217; log entry 21). -/
def State.breaksH1 (s : State) (w : Word16) : Bool :=
  w &&& 0x00CF == 0x0002 && s.fsm != .halted && !(s.spWritten && s.rpWritten)

/-- RP destinations may be read when DONE = 1 and CODE = OK (H4). -/
def State.destsReadable (s : State) : Bool := s.status.done && s.status.code == .ok

/-- The value of a slot as the host reads it: a span only once its RLEN is written (10_state.md R48). -/
def Leaf.whole : Leaf → Option Leaf
  | .bytes _ none => none
  | l => some l

/-- The written byte at an index of a span's buffer: indexes from RLEN on are not written (43_param_decode.md R177). -/
def Leaf.byteAt (i : Nat) : Leaf → Option Byte
  | .bytes buf none => buf.read i
  | .bytes buf (some rlen) => if i < rlen then buf.read i else none
  | _ => none

/-- A host read of a receive value `v`: one that is not written faults (10_state.md R48, 70_reset_and_hazards.md R241); one that is
written, or that a failure made unspecified, breaks H4 unless DONE = 1 and CODE = OK (log entry 28). -/
def State.readWritten (s : State) (v : Option HostRead) : Host.Outcome State Fault Refusal :=
  match v with
  | some r => if s.destsReadable then .next (s.hostRead r) else .refused (.brokenDuty .h4)
  | none => if s.dstUnspec && !s.destsReadable then .refused (.brokenDuty .h4) else .fault .unwrittenRead

/-- A read of a scalar's `v`, a span's RLEN with its buffer, or a sub-list's RCNT. -/
def readDest (slot : Slot) (s : State) : Host.Outcome State Fault Refusal :=
  s.readWritten (((s.dst.get slot).bind Leaf.whole).map .leaf)

/-- A read of one buffer byte. -/
def readBufByte (slot : Slot) (i : Nat) (s : State) : Host.Outcome State Fault Refusal :=
  s.readWritten (((s.dst.get slot).bind (Leaf.byteAt i)).map .byte)

end Sys2Proof.Machine
end

