-- ==== Sys2Proof/Machine/Fetch.lean ====
section
/-! DEFINITION. What one step does: the host's next action if it may land, else one step of the block, whose position says which code
word it meets (00_scope.md R5; 10_state.md R36, R49), and how a bare table word is placed for the next step. -/

namespace Sys2Proof.Machine

open Sys2Proof.Config

/-- A failed reply read (40_handshake.md R112, R118). -/
def readFailed (e : IoErr) (s : State) : State :=
  (s.exchanged s.build.rxFill (.fail e)).failPhase (.transport e)

/-- A read of the reply outside the parameters: the byte is decoded at its site and its instruction run; a byte that stands for no row there is
judged all the same (30_encoding.md R97). -/
def replyStep (site : Site) (s : State) : Host.Outcome State Fault Refusal :=
  match s.env.xchg with
  | .fail e => .next (readFailed e s)
  | .ok b =>
    match decode site (.wire [b]) with
    | .ok i => exec i s
    | .error _ => receive b "WIRE" s

/-- A byte of the request: the instruction it is a byte of (41_frame_codec.md R131). -/
def requestStep (s : State) : Host.Outcome State Fault Refusal :=
  match s.nextUnit with
  | some (i, _) => exec i s
  | none => .refused (.outOfPosition "TX")

/-- A byte of a receive parameter: the current descriptor's tag is decoded and its instruction run (43_param_decode.md R170). -/
def paramStep (s : State) : Host.Outcome State Fault Refusal :=
  match s.curDesc with
  | some r => exec (decodeRecvTag r.tag) s
  | none => .refused (.outOfPosition "RX_PARAM")

/-- One step of the block (10_state.md R36). In IDLE and DONE it waits for a CMDW write. In HALTED it makes no call ever again, and the
model stops (44_transaction.md R201). -/
def blockStep (s : State) : Host.Outcome State Fault Refusal :=
  match s.fsm with
  | .idle => .next s
  | .done => .next s
  | .halted => .fault .terminatorHalt
  | .rpSel => .next (rpSelStep s)
  | .rpRlow => .next (rpRlowStep s)
  | .rpPulse => .next (rpPulseStep s)
  | .rpRhigh => .next (rpRhighStep s)
  | .rpBoot => .next (rpBootStep s)
  | .acqNr => .next (acqNrStep s)
  | .acqR => .next (acqRStep s)
  | .acqSel => .next (acqSelStep s)
  | .tx => requestStep s
  | .rel => .next (relStep s)
  | .rxScan => replyStep .scan s
  | .rxCmd => replyStep .cmdByte s
  | .rxCount => replyStep .count s
  | .rxParam => paramStep s
  | .rxEnd => replyStep .endMark s

/-- A host write of a register: a CMDW write issues what it decodes to, unless the block is BUSY, which breaks H2, or the write breaks H1
(44_transaction.md R198, R199); a write of STATUS or TERR is ignored (10_state.md R42). -/
def writeReg (r : HostReg) (w : Word16) (s : State) : Host.Outcome State Fault Refusal :=
  match r with
  | .cmdw =>
    if s.status.busy then .refused (.brokenDuty .h2)
    else if s.breaksH1 w then .refused (.brokenDuty .h1)
    else exec (decodeCmdw w) s
  | .status => .next s
  | .terr => .next s

/-- The end of the host's `WAIT` loop (30_encoding.md R101). -/
def State.waitOver (s : State) : Bool := s.status.done || s.status.fault

/-- One step of the machine. The host acts as soon as it can; `WAIT` and `pause` leave the block a step (log entry 2). -/
def stepOnce (s : State) : Host.Outcome State Fault Refusal :=
  match s.hostq with
  | [] => blockStep s
  | .writeReg r w :: rest => writeReg r w { s with hostq := rest }
  | .send l :: rest => writeSend l { s with hostq := rest }
  | .recv l :: rest => writeRecv l { s with hostq := rest }
  | .readReg r :: rest => readReg r { s with hostq := rest }
  | .readDest slot :: rest => readDest slot { s with hostq := rest }
  | .readByte slot i :: rest => readBufByte slot i { s with hostq := rest }
  | .wait :: rest => if s.waitOver then .next { s with hostq := rest } else blockStep s
  | .pause :: rest => blockStep { s with hostq := rest }

/-! ### Placing a bare table word (log entry 15) -/

/-- A send descriptor of a tag, its operands zero. -/
def sampleSend (t : BitVec 4) : SendDesc :=
  match t.toNat with
  | 0 => .u8 0
  | 1 => .u16be 0
  | 2 => .u16le 0
  | 3 => .u32be 0
  | 4 => .u32le 0
  | 5 => .span []
  | 6 => .nullterm []
  | 7 => .list 0 .nil
  | _ => .reserved (t.extractLsb' 0 3)

/-- The block in the request phase at a byte index, the host leaving it one step. -/
def State.placeTx (s : State) (idx : Nat) : State :=
  { s with hostq := .pause :: s.hostq, fsm := .tx, ph := .req, txIdx := idx }

/-- The block in the reply phase, about to receive `b`, the host leaving it one step. -/
def State.placeRx (s : State) (f : Fsm) (b : Byte) : State :=
  { s with
    hostq := .pause :: s.hostq
    fsm := f
    ph := .rep
    env := { s.env with xchgIn := .ok b :: s.env.xchgIn } }

/-- The host's next action is a write of CMDW, the stores as they stand written by it before (H1). -/
def State.placeCmdw (s : State) (w : Word16) : State :=
  { s with spWritten := true, rpWritten := true, hostq := .writeReg .cmdw w :: s.hostq }

/-- A CMDW value is the host's next write; a send tag is the tag of the one send descriptor, at its first byte; a reserved tag is met by the
issue check of an EXECUTE; a wire byte is the next byte sent or received. -/
def State.place (s : State) (site : Site) (c : CodeWord) : State :=
  match c with
  | .cmdw w => s.placeCmdw w
  | .tag t =>
    if tagReserved t then State.placeCmdw { s with sp := [sampleSend t] } 0x0002
    else State.placeTx { s with sp := [sampleSend t] } (if s.build.wv.countByte then 3 else 2)
  | .wire bs =>
    let b := nthByte bs 0
    if site = .scan then State.placeRx { s with scnt := 0 } .rxScan b
    else if site = .endMark then s.placeRx .rxEnd b
    else if b.getLsbD 7 then s.placeRx .rxCmd b
    else State.placeTx { s with cl := { s.cl with cmd := b.extractLsb' 0 7 } } 1

/-- The state whose next step runs the instruction that a table word decodes to; the state itself where it decodes to none. -/
def State.placeWord (s : State) (nbits w : Nat) : State :=
  match decodeTableWord nbits w with
  | some i => s.place (tableSite nbits w) (encode i)
  | none => s

end Sys2Proof.Machine
end

