-- ==== Sys2Proof/Machine/Step.lean ====
section
/-! DEFINITION. The machine's step, and the placing of a table word for the next step. Both only call Machine/Fetch.lean. -/

namespace Sys2Proof.Machine

/-- One step (00_scope.md R5): see `stepOnce`. -/
def step : State → Host.Outcome State Fault Refusal := stepOnce

/-- The state in which the very next step runs the instruction of a table word: see `State.placeWord` (log entry 15). -/
def State.withFetchWord (s : State) (nbits w : Nat) : State := s.placeWord nbits w

end Sys2Proof.Machine
end

