-- ==== Sys2Proof/Safety.lean ====
section
/-! DEFINITION. What the statements speak of: the invariant of a step (`State.Inv`), the capacity of the receive buffers, the level of
Select (10_state.md R35), the end of a run (44_transaction.md R201), and what a decoded value leaves in RP (43_param_decode.md R182). -/

namespace Sys2Proof.Machine

open Sys2Proof.Config

/-- The states of an EXECUTE in progress (10_state.md R36). -/
def Fsm.inExecute : Fsm → Bool
  | .acqNr | .acqR | .acqSel | .tx | .rel | .rxScan | .rxCmd | .rxCount | .rxParam | .rxEnd => true
  | _ => false

/-- The states of a RESET_PEER in progress. -/
def Fsm.inReset : Fsm → Bool
  | .rpSel | .rpRlow | .rpPulse | .rpRhigh | .rpBoot => true
  | _ => false

/-- The states whose next call is an `Xchg` of the reply phase. -/
def Fsm.inReply : Fsm → Bool
  | .rxScan | .rxCmd | .rxCount | .rxParam | .rxEnd => true
  | _ => false

/-- The states in which Select is released unless a write to it failed: IDLE, DONE, the RESET_PEER states, and the acquire before its Select
write (10_state.md R35). -/
def Fsm.selectReleased : Fsm → Bool
  | .idle | .done | .rpSel | .rpRlow | .rpPulse | .rpRhigh | .rpBoot | .acqNr | .acqR | .acqSel => true
  | _ => false

/-- What the flags of STATUS are in each state (10_state.md R36, R43, R50): BUSY and DONE never both, FAULT exactly in HALTED. -/
def flagsOf (f : Fsm) (st : Status) : Bool :=
  match f with
  | .idle => !st.busy && !st.done && !st.fault
  | .done => !st.busy && st.done && !st.fault
  | .halted => !st.busy && st.done && st.fault && st.code == .terminator
  | _ => st.busy && !st.done && !st.fault

/-- ERRBYTE is 0x00 but for codes 4 and 8 (10_state.md R43). -/
def errByteOf (st : Status) : Bool :=
  st.errByte == 0 || st.code == .unexpectedByte || st.code == .terminator

/-- The width of a scalar in bytes (30_encoding.md R84, R90). -/
def RecvDesc.width : RecvDesc → Option Nat
  | .u8 => some 1
  | .u16be => some 2
  | .u16le => some 2
  | .u32be => some 4
  | .u32le => some 4
  | .span _ => none
  | .nullterm _ => none
  | .list _ _ => none
  | .reserved _ => none

/-- The most payload bytes a descriptor takes (43_param_decode.md R172 to R178): a scalar exactly its width, a null-terminated span one
byte more than its capacity. -/
def RecvDesc.payloadMax : RecvDesc → Nat
  | .span cap => cap
  | .nullterm cap => cap + 1
  | r => r.width.getD 0

/-- The byte the cursor awaits fits the descriptor it is at, and the payload index stays within the length, the length within what the
descriptor takes. -/
def Cursor.fits (c : Cursor) (lf : ListForm) (rmode : Mode) (r : RecvDesc) : Bool :=
  let isList := r.tag == 7
  match c.stage with
  | .len0 => (!isList || lf == .prefixed) && c.i == 0 && c.held == []
  | .len1 => (!isList || lf == .prefixed) && rmode == .long && c.i == 0 && c.held.length == 1
  | .count => isList && c.i == 0 && c.held == []
  | .payload =>
    !isList && decide (c.i < c.len.toNat ∧ c.len.toNat ≤ r.payloadMax) &&
      match r.width with
      | some n => c.len.toNat == n && c.held.length == c.i
      | none => true

/-- Every enclosing sub-list has an element left to decode, and no more elements than its capacity (43_param_decode.md R179). -/
def framesFit (rp : List RecvDesc) (p : Nat) : List Frame → Bool
  | [] => true
  | f :: rest =>
    decide (f.j < f.k) && framesFit rp p rest &&
      match slotDesc rp p rest.length with
      | some (.list ecap _) => decide (f.k ≤ ecap)
      | _ => false

/-- What every step keeps. -/
structure State.Inv (s : State) : Prop where
  flags : flagsOf s.fsm s.status = true
  errByte : errByteOf s.status = true
  stores : s.sp.length ≤ 255 ∧ s.rp.length ≤ 255
  executing : s.fsm.inExecute = true → s.cl.op = 0x2 ∧ s.issueCheck = true ∧ s.spWritten = true ∧ s.rpWritten = true ∧
    s.dstUnspec = false
  resetting : s.fsm.inReset = true → s.cl.op = 0x1
  phase : (s.fsm = .tx → s.ph = .req) ∧ (s.fsm.inReply = true → s.ph = .rep)
  pending : s.err.isSome = true → s.fsm = .rel
  scan : s.scnt ≤ s.build.scanCeiling ∧ (s.fsm = .rxScan → s.scnt < s.build.scanCeiling)
  sent : s.txn.toNat = s.txIdx % 4 ∧ (s.fsm = .tx → s.nextUnit.isSome = true)
  cursor : s.fsm = .rxParam →
    (∃ r, s.curDesc = some r ∧ r.valid = true ∧ s.cur.fits s.build.listForm s.cl.rmode r = true) ∧
      framesFit s.rp s.cur.p s.cur.stack = true
  dests : s.dst.wf
  unspec : s.dstUnspec = true → s.dst = []

/-- A destination is of its descriptor's type, and no buffer byte, RLEN or RCNT is beyond the capacity
(43_param_decode.md R177 to R179, 60_exceptions.md R216). -/
def Leaf.within (r : RecvDesc) (l : Leaf) : Bool :=
  match r, l with
  | .u8, .u8 _ => true
  | .u16be, .u16 _ => true
  | .u16le, .u16 _ => true
  | .u32be, .u32 _ => true
  | .u32le, .u32 _ => true
  | .span cap, .bytes buf rlen => buf.all (fun c => c.1 < cap) && rlen.all (fun n => n ≤ cap)
  | .nullterm cap, .bytes buf rlen => buf.all (fun c => c.1 < cap) && rlen.all (fun n => n ≤ cap)
  | .list ecap _, .count k => k ≤ ecap
  | _, _ => false

/-- Every written destination belongs to a receive descriptor and is within it. -/
def State.WithinCapacity (s : State) : Prop :=
  ∀ x ∈ s.dst, ∃ p js r, x.1 = p :: js ∧ slotDesc s.rp p js.length = some r ∧ x.2.within r = true

/-- A failed write to Select (10_state.md R33). -/
def Event.selectFailed : Event → Bool
  | .write .selectN _ (some _) => true
  | _ => false

/-- 10_state.md R35: as long as no write to Select failed and no fault occurred, Select is released outside the critical section and
granted while bytes are exchanged. -/
def State.SelectOk (s : State) : Prop :=
  s.log.all (fun e => !e.selectFailed) = true → s.fsm ≠ .halted →
    (s.fsm.selectReleased = true → s.selectN = true) ∧
      (s.fsm = .tx ∨ s.fsm.inReply = true → s.selectN = false)

/-- A COMPLETE event. -/
def Event.isComplete : Event → Bool
  | .complete _ => true
  | _ => false

/-- A write of CMDW among the host's actions. -/
def HostAct.isCmdw : HostAct → Bool
  | .writeReg .cmdw _ => true
  | _ => false

/-- The end of a run (44_transaction.md R201): what else the host may still do (read, wait, write a store) does not matter. -/
def State.endOfRun (s : State) : Bool :=
  (s.fsm == .done || s.fsm == .idle) && s.hostq.all (fun a => !a.isCmdw) && s.log.getLast?.all Event.isComplete

/-- A byte was exchanged. -/
def Event.isXchg : Event → Bool
  | .xchg _ _ => true
  | _ => false

mutual
/-- A receive descriptor of the same shape as a send descriptor, with room for it (43_param_decode.md R182). -/
def SendDesc.fitsIn : SendDesc → RecvDesc → Bool
  | .u8 _, .u8 => true
  | .u16be _, .u16be => true
  | .u16le _, .u16le => true
  | .u32be _, .u32be => true
  | .u32le _, .u32le => true
  | .span d, .span cap => decide (d.length ≤ cap)
  | .nullterm d, .nullterm cap => decide (d.length ≤ cap)
  | .list _ elems, .list ecap ed => decide (elems.length ≤ ecap) && elems.fitIn ed
  | _, _ => false
def SendElems.fitIn : SendElems → RecvDesc → Bool
  | .nil, _ => true
  | .cons d rest, r => d.fitsIn r && rest.fitIn r
end

/-- A buffer that holds exactly the bytes `d`, byte 0 first. -/
def cellsOf (d : List Byte) : Memory := d.mapIdx (fun i b => (i, b))

mutual
/-- What decoding a value writes at a slot (43_param_decode.md R182): `v`; the bytes and RLEN; the elements and RCNT. -/
def SendDesc.stored (slot : Slot) (dst : Dests) : SendDesc → Dests
  | .u8 v => dst.set slot (.u8 v)
  | .u16be v => dst.set slot (.u16 v)
  | .u16le v => dst.set slot (.u16 v)
  | .u32be v => dst.set slot (.u32 v)
  | .u32le v => dst.set slot (.u32 v)
  | .span d => dst.set slot (.bytes (cellsOf d) (some d.length))
  | .nullterm d => dst.set slot (.bytes (cellsOf d) (some d.length))
  | .list _ elems => (elems.stored slot 0 dst).set slot (.count elems.length)
  | .reserved _ => dst
/-- The elements from index `j` on. -/
def SendElems.stored (slot : Slot) (j : Nat) (dst : Dests) : SendElems → Dests
  | .nil => dst
  | .cons d rest => rest.stored slot (j + 1) (d.stored (slot ++ [j]) dst)
end

/-- What decoding one value for each receive parameter writes, from parameter `p` on (41_frame_codec.md R134). -/
def storedParams (p : Nat) (dst : Dests) : List SendDesc → Dests
  | [] => dst
  | d :: rest => storedParams (p + 1) (d.stored [p] dst) rest

/-- The elements as a list. -/
def SendElems.toList : SendElems → List SendDesc
  | .nil => []
  | .cons d rest => d :: rest.toList

/-- The bytes `EncodeParam(d, m)` sends (42_param_encode.md R150). -/
def SendDesc.bytes (lf : ListForm) (m : Mode) (d : SendDesc) : List Byte := (d.units lf m).map Prod.snd

/-- The bytes of the whole request: START to END, then the pad (30_encoding.md R86, 41_frame_codec.md R132). -/
def State.requestBytes (s : State) : List Byte :=
  let body := s.requestUnits.map Prod.snd
  body ++ if s.build.wv.pad4 then List.replicate ((4 - body.length % 4) % 4) PAD_BYTE else []

end Sys2Proof.Machine
end

