-- ==== Sys2Proof/Certificates/Slice0/Obligations.lean ====
section
/-! DEFINITION. The statements for the provers, from the numbered rules of the spec. A statement that gives a next state as
`{ s with … }` gives the instruction's result and its frame at once: every field not named there is unchanged.
`terrDraw` stands where the spec leaves TERR unspecified (log entry 19). -/

open Sys2Proof Sys2Proof.Machine Sys2Proof.Config

/-! ### Encodings -/

/-- 30_encoding.md R80 to R92: at each of its sites the code word of a well-formed instruction decodes to it. -/
def Obligations.DecodeEncode : Prop :=
  ∀ i : Instr, i.WellFormed = true → ∀ site ∈ i.sites, decode site (encode i) = .ok i

/-- 30_encoding.md R80 to R98: what decodes is well formed, at a site of its own, and encodes to the very code word: no bit is dropped. -/
def Obligations.EncodeDecode : Prop :=
  ∀ (site : Site) (c : CodeWord) (i : Instr), decode site c = .ok i →
    encode i = c ∧ i.WellFormed = true ∧ site ∈ i.sites

/-- 30_encoding.md R81: the two masks, and ILLEGAL_COMMAND for every other value. -/
def Obligations.CmdwMasks : Prop :=
  ∀ w : Word16,
    (w &&& 0x00CF = 0x0001 ↔ ∃ rb cmd rmode smode, decodeCmdw w = .resetPeer rb cmd rmode smode) ∧
    (w &&& 0x00CF = 0x0002 ↔ ∃ rb cmd rmode smode, decodeCmdw w = .execute rb cmd rmode smode) ∧
    (w &&& 0x00CF ≠ 0x0001 → w &&& 0x00CF ≠ 0x0002 →
      ∀ s : State, s.fsm ≠ .halted → s.status.busy = false →
        ∃ t, exec (decodeCmdw w) s = .next t ∧ t.status.code = .illegalCommand ∧ t.fsm = .done ∧
          t.log = s.log ++ [.issue w, .complete t.status.toWord])

/-- A few code words, written out from 30_encoding.md R80, R84, R88 and opcode_table.json. -/
def Obligations.DecodeSamples : Prop :=
  decode .cmdw (.cmdw 0x2032) = .ok (.execute 0 0x20 .long .long) ∧
  decode .cmdw (.cmdw 0x0031) = .ok (.resetPeer 0 0 .long .long) ∧
  decode .cmdw (.cmdw 0x0042) = .ok (.illegalRsv6 0 0 0 .short .short 2) ∧
  decode .sendTag (.tag 0x3) = .ok .encU32BE ∧
  decode .recvTag (.tag 0x6) = .ok .decNullterm ∧
  decode .scan (.wire [0xEF]) = .ok .wireErr ∧
  decode .cmdByte (.wire [0xA0]) = .ok (.wireCmdReply 0x20) ∧
  decode .lenLong (.wire [0x01, 0x2C]) = .ok (.wireLenLong 300)

/-! ### Reset -/

/-- 10_state.md R53: the values the table gives. (TERR, SP and RP are unspecified there and not stated here.) -/
def Obligations.ResetValues : Prop :=
  State.reset.selectN = true ∧ State.reset.resetN = true ∧ State.reset.fsm = .idle ∧
  State.reset.cl = ⟨0, .short, .short, 0⟩ ∧ State.reset.ph = .req ∧
  State.reset.scnt = 0 ∧ State.reset.txn = 0 ∧
  State.reset.cur.p = 0 ∧ State.reset.cur.stack = [] ∧ State.reset.cur.i = 0 ∧ State.reset.cur.len = 0 ∧
  State.reset.status.toWord = 0x0000 ∧ State.reset.log = []

/-- The invariants hold at reset. The lengths of SP and RP there are the model's choice (log entry 8). -/
def Obligations.ResetInvariants : Prop :=
  State.reset.Inv ∧ State.reset.SelectOk ∧ State.reset.WithinCapacity ∧ State.reset.build.Admitted

/-! ### The step and the host -/

/-- A step runs the decoded instruction: the CMDW value the host writes (unless the write breaks H1 or H2: BrokenDutiesRefused); the request's next byte; a reply byte at its site; the current
receive descriptor's tag. -/
def Obligations.StepRunsDecoded : Prop :=
  (∀ (s : State) (w : Word16) (rest : List HostAct), s.hostq = .writeReg .cmdw w :: rest → s.status.busy = false →
    (w &&& 0x00CF ≠ 0x0002 ∨ s.fsm = .halted ∨ (s.spWritten = true ∧ s.rpWritten = true)) →
    step s = exec (decodeCmdw w) { s with hostq := rest }) ∧
  (∀ (s : State) (i : Instr) (b : Byte), s.hostq = [] → s.fsm = .tx → s.nextUnit = some (i, b) → step s = exec i s) ∧
  (∀ (s : State) (site : Site) (b : Byte) (i : Instr), s.hostq = [] →
    (s.fsm, site) ∈ [(Fsm.rxScan, Site.scan), (.rxCmd, .cmdByte), (.rxCount, .count), (.rxEnd, .endMark)] →
    s.env.xchg = .ok b → decode site (.wire [b]) = .ok i → step s = exec i s) ∧
  (∀ (s : State) (r : RecvDesc), s.hostq = [] → s.fsm = .rxParam → s.curDesc = some r →
    step s = exec (decodeRecvTag r.tag) s) ∧
  (∀ (s : State) (rest : List HostAct), s.hostq = .wait :: rest → s.status.done = false → s.status.fault = false →
    step s = blockStep s) ∧
  (∀ s : State, s.hostq = [] → step s = blockStep s)

/-- 44_transaction.md R199: the model refuses a run in which the host breaks H1 (EXECUTE before SP and RP are written; log entry 21), H2 in its BUSY part, H3, H4 (a read of a written
value, or of one that a failure made unspecified; log entry 28) or H6. A CMDW write while FAULT = 1, which H2 forbids too, is ignored instead (log entry 11): TerminatorFault. -/
def Obligations.BrokenDutiesRefused : Prop :=
  ∀ (s : State) (rest : List HostAct),
    (∀ w, s.hostq = .writeReg .cmdw w :: rest → s.status.busy = false → s.fsm ≠ .halted → w &&& 0x00CF = 0x0002 →
      (s.spWritten = false ∨ s.rpWritten = false) → step s = .refused (.brokenDuty .h1)) ∧
    (∀ w, s.hostq = .writeReg .cmdw w :: rest → s.status.busy = true → step s = .refused (.brokenDuty .h2)) ∧
    (∀ l, s.hostq = .send l :: rest → s.status.busy = true → step s = .refused (.brokenDuty .h3)) ∧
    (∀ l, s.hostq = .recv l :: rest → s.status.busy = true → step s = .refused (.brokenDuty .h3)) ∧
    (¬(s.status.done = true ∧ s.status.code = .ok) →
      (∀ q l, s.hostq = .readDest q :: rest → s.dst.get q = some l → (∀ buf, l ≠ .bytes buf none) →
        step s = .refused (.brokenDuty .h4)) ∧
      (∀ q i buf b, s.hostq = .readByte q i :: rest → s.dst.get q = some (.bytes buf none) → buf.read i = some b →
        step s = .refused (.brokenDuty .h4)) ∧
      (∀ q i buf n b, s.hostq = .readByte q i :: rest → s.dst.get q = some (.bytes buf (some n)) → i < n → buf.read i = some b →
        step s = .refused (.brokenDuty .h4)) ∧
      (∀ q, s.hostq = .readDest q :: rest → s.dstUnspec = true → step s = .refused (.brokenDuty .h4)) ∧
      (∀ q i, s.hostq = .readByte q i :: rest → s.dstUnspec = true → step s = .refused (.brokenDuty .h4))) ∧
    (s.hostq = .readReg .terr :: rest → s.status.code ≠ .transport → step s = .refused (.brokenDuty .h6))

/-- 10_state.md R42: the registers' numbers; CMDW reads 0 and a write of it issues what it decodes to; STATUS and TERR are read-only, and host writes to them are ignored.
(Reading TERR with another CODE, writing CMDW while BUSY, and writing EXECUTE to it before the stores are broken duties: BrokenDutiesRefused.) -/
def Obligations.HostRegisters : Prop :=
  HostReg.cmdw.no = 0 ∧ HostReg.status.no = 1 ∧ HostReg.terr.no = 2 ∧
  ∀ (s : State) (rest : List HostAct) (w : Word16),
    (s.hostq = .readReg .cmdw :: rest → step s = .next { s with hostq := rest, hostLog := s.hostLog ++ [.word 0] }) ∧
    (s.hostq = .writeReg .cmdw w :: rest → s.status.busy = false →
      (w &&& 0x00CF ≠ 0x0002 ∨ s.fsm = .halted ∨ (s.spWritten = true ∧ s.rpWritten = true)) →
      step s = exec (decodeCmdw w) { s with hostq := rest }) ∧
    (s.hostq = .readReg .status :: rest →
      step s = .next { s with hostq := rest, hostLog := s.hostLog ++ [.word s.status.toWord] }) ∧
    (s.hostq = .readReg .terr :: rest → s.status.code = .transport →
      step s = .next { s with hostq := rest, hostLog := s.hostLog ++ [.ioErr s.terr] }) ∧
    (s.hostq = .writeReg .status w :: rest → step s = .next { s with hostq := rest }) ∧
    (s.hostq = .writeReg .terr w :: rest → step s = .next { s with hostq := rest })

/-- 20_memory.md R61, R62, R71: while the block is not BUSY the host writes the stores; a new receive list's destinations hold no value (log entry 9, the model's choice).
10_state.md R48, 70_reset_and_hazards.md R241: reading a receive value that is not written is a fault, at reset, while BUSY and after completion alike; after OK a written one is read as it was written.
With `dstUnspec` and DONE = 1 and CODE = OK (a failed EXECUTE, then an OK RESET_PEER) the spec calls the values unspecified: that a read of one then faults is the model's choice (log entry 28). -/
def Obligations.StoreAccess : Prop :=
  (∀ (s : State) (rest : List HostAct) (l : List SendDesc), s.hostq = .send l :: rest → s.status.busy = false →
    l.length ≤ 255 → step s = .next { s with hostq := rest, sp := l, spWritten := true }) ∧
  (∀ (s : State) (rest : List HostAct) (l : List RecvDesc), s.hostq = .recv l :: rest → s.status.busy = false →
    l.length ≤ 255 → step s = .next { s with hostq := rest, rp := l, dst := [], dstUnspec := false, rpWritten := true }) ∧
  (∀ (s : State) (rest : List HostAct) (q : Slot) (i : Nat), s.hostq = .readByte q i :: rest →
    ((s.dstUnspec = false ∨ (s.status.done = true ∧ s.status.code = .ok)) →
      (s.dst.get q = none → step s = .fault .unwrittenRead) ∧
      (∀ buf n, s.dst.get q = some (.bytes buf n) → buf.read i = none → step s = .fault .unwrittenRead) ∧
      (∀ buf n, s.dst.get q = some (.bytes buf (some n)) → n ≤ i → step s = .fault .unwrittenRead)) ∧
    (∀ buf n b, s.status.done = true → s.status.code = .ok → s.dst.get q = some (.bytes buf (some n)) → i < n →
      buf.read i = some b → step s = .next { s with hostq := rest, hostLog := s.hostLog ++ [.byte b] })) ∧
  ∀ (s : State) (rest : List HostAct) (q : Slot), s.hostq = .readDest q :: rest →
    ((s.dstUnspec = false ∨ (s.status.done = true ∧ s.status.code = .ok)) →
      (s.dst.get q = none → step s = .fault .unwrittenRead) ∧
      (∀ buf, s.dst.get q = some (.bytes buf none) → step s = .fault .unwrittenRead)) ∧
    (s.status.done = true → s.status.code = .ok →
      (∀ v, s.dst.get q = some (.u8 v) →
        step s = .next { s with hostq := rest, hostLog := s.hostLog ++ [.leaf (.u8 v)] }) ∧
      (∀ v, s.dst.get q = some (.u16 v) →
        step s = .next { s with hostq := rest, hostLog := s.hostLog ++ [.leaf (.u16 v)] }) ∧
      (∀ v, s.dst.get q = some (.u32 v) →
        step s = .next { s with hostq := rest, hostLog := s.hostLog ++ [.leaf (.u32 v)] }) ∧
      (∀ buf n, s.dst.get q = some (.bytes buf (some n)) →
        step s = .next { s with hostq := rest, hostLog := s.hostLog ++ [.leaf (.bytes buf (some n))] }) ∧
      (∀ k, s.dst.get q = some (.count k) →
        step s = .next { s with hostq := rest, hostLog := s.hostLog ++ [.leaf (.count k)] }))

/-- 10_state.md R43, 60_exceptions.md R210: where each field of STATUS stands, bit 3 reading 0, and the numbers of the codes. -/
def Obligations.StatusLayout : Prop :=
  ErrCode.ok.toBits = 0 ∧ ErrCode.transport.toBits = 1 ∧ ErrCode.timeout.toBits = 2 ∧ ErrCode.errorResponse.toBits = 3 ∧
  ErrCode.unexpectedByte.toBits = 4 ∧ ErrCode.malformedLength.toBits = 5 ∧ ErrCode.capacityExceeded.toBits = 6 ∧
  ErrCode.illegalCommand.toBits = 7 ∧ ErrCode.terminator.toBits = 8 ∧
  ∀ st : Status,
    st.toWord.getLsbD 0 = st.busy ∧ st.toWord.getLsbD 1 = st.done ∧ st.toWord.getLsbD 2 = st.fault ∧
    st.toWord.getLsbD 3 = false ∧ st.toWord.extractLsb' 4 4 = st.code.toBits ∧
    st.toWord.extractLsb' 8 8 = st.errByte

/-! ### The command word -/

/-- 44_transaction.md R198: a CMDW write is ignored, and nothing is logged, while HALTED or BUSY. -/
def Obligations.CmdwIgnored : Prop :=
  ∀ (i : Instr) (s : State), Site.cmdw ∈ i.sites → (s.fsm = .halted ∨ s.status.busy = true) → exec i s = .next s

/-- 44_transaction.md R194, R197, R198: each of the 16 ILLEGAL rows completes with ILLEGAL_COMMAND and makes no primitive call. CL takes the word's
fields. That a word with OP = 2 leaves the RP destinations unspecified, listing none, is the model's reading (log entries 9 and 10). -/
def Obligations.IllegalCompletes : Prop :=
  ∀ (s : State) (rb v : BitVec 1) (cmd : BitVec 7) (rsv : BitVec 2) (rm sm : Mode) (op : BitVec 4),
    s.fsm ≠ .halted → s.status.busy = false →
    ∀ i ∈ [Instr.illegalOp0 rb cmd rsv rm sm, .illegalOp3 rb cmd rsv rm sm, .illegalOp4 rb cmd rsv rm sm,
        .illegalOp5 rb cmd rsv rm sm, .illegalOp6 rb cmd rsv rm sm, .illegalOp7 rb cmd rsv rm sm,
        .illegalOp8 rb cmd rsv rm sm, .illegalOp9 rb cmd rsv rm sm, .illegalOpA rb cmd rsv rm sm,
        .illegalOpB rb cmd rsv rm sm, .illegalOpC rb cmd rsv rm sm, .illegalOpD rb cmd rsv rm sm,
        .illegalOpE rb cmd rsv rm sm, .illegalOpF rb cmd rsv rm sm, .illegalRsv6 rb cmd v rm sm op,
        .illegalRsv7 rb cmd v rm sm op],
      ∃ w st, encode i = .cmdw w ∧ st = { s.status with busy := false, done := true, code := .illegalCommand, errByte := 0 } ∧
        exec i s = .next { s with
          status := st
          cl := ⟨cmdwOp w, cmdwSmode w, cmdwRmode w, cmdwCmd w⟩
          terr := terrDraw s.env.drawn
          env := { s.env with drawn := s.env.drawn + 1 }
          dst := if cmdwOp w = 0x2 then [] else s.dst
          dstUnspec := if cmdwOp w = 0x2 then true else s.dstUnspec
          err := none
          fsm := .done
          log := s.log ++ [.issue w, .complete st.toWord] }

/-- 44_transaction.md R195, R198: RESET_PEER is issued: BUSY 1, DONE 0, CL, ISSUE, and the sequence begins; nothing else changes. -/
def Obligations.ResetPeerIssues : Prop :=
  ∀ (s : State) (rb : BitVec 1) (cmd : BitVec 7) (rm sm : Mode), s.fsm ≠ .halted → s.status.busy = false →
    ∃ w, encode (.resetPeer rb cmd rm sm) = .cmdw w ∧
      exec (.resetPeer rb cmd rm sm) s = .next { s with
        status := { s.status with busy := true, done := false }
        cl := ⟨0x1, sm, rm, cmd⟩
        fsm := .rpSel
        log := s.log ++ [.issue w] }

/-- 40_handshake.md R117, 44_transaction.md R195: a peer reset whose writes succeed: the five calls in their order, with the build's delays, then
Complete(OK); both lines end at 1. -/
def Obligations.ResetPeerRuns : Prop :=
  ∀ (s : State) (more : List WriteDraw), s.hostq = [] → s.fsm = .rpSel →
    s.env.writeIn = .ok :: .ok :: .ok :: more →
    ∃ st, st = { s.status with busy := false, done := true, code := .ok, errByte := 0 } ∧
      Sys2Proof.core.run 5 s = .next { s with
        selectN := true
        resetN := true
        status := st
        terr := terrDraw s.env.drawn
        env := { s.env with writeIn := more, drawn := s.env.drawn + 1 }
        err := none
        fsm := .done
        log := s.log ++ [.write .selectN true none, .write .resetN false none, .delay s.build.tRstMs,
          .write .resetN true none, .delay s.build.tBootMs, .complete st.toWord] }

/-- 44_transaction.md R196: a failed line write of the peer reset ends it at once: TERR is the failure's value, the code is TRANSPORT, the failed line's
level is the draw and the other line is as it was; no further write. -/
def Obligations.ResetPeerStops : Prop :=
  ∀ (s : State) (e : IoErr) (l : Bool), s.hostq = [] → s.cl.op = 0x1 → s.env.write = .fail e l →
    ∀ x ∈ [(Fsm.rpSel, Line.selectN, true), (.rpRlow, .resetN, false), (.rpRhigh, .resetN, true)], s.fsm = x.1 →
      ∃ st, st = { s.status with busy := false, done := true, code := .transport, errByte := 0 } ∧
        step s = .next { s with
          selectN := if x.2.1 = .selectN then l else s.selectN
          resetN := if x.2.1 = .resetN then l else s.resetN
          status := st
          terr := e
          env := s.env.dropWrite
          err := none
          fsm := .done
          log := s.log ++ [.write x.2.1 x.2.2 (some e), .complete st.toWord] }

/-- 44_transaction.md R190, R191, R198; 40_handshake.md R113: an EXECUTE whose check holds is issued: the request phase's acquire begins, and no receive
destination holds a value yet (10_state.md R48). -/
def Obligations.ExecuteStarts : Prop :=
  ∀ (s : State) (rb : BitVec 1) (cmd : BitVec 7) (rm sm : Mode), s.fsm ≠ .halted → s.status.busy = false →
    (∀ d ∈ s.sp, d.valid s.build.listForm sm = true) → (∀ r ∈ s.rp, r.valid = true) →
    ∃ w, encode (.execute rb cmd rm sm) = .cmdw w ∧
      exec (.execute rb cmd rm sm) s = .next { s with
        status := { s.status with busy := true, done := false }
        cl := ⟨0x2, sm, rm, cmd⟩
        ph := .req
        dst := []
        dstUnspec := false
        err := none
        fsm := if s.build.wv.waitNotReady then .acqNr else .acqR
        log := s.log ++ [.issue w] }

/-- 44_transaction.md R191, R194, R197: an EXECUTE whose check fails completes with ILLEGAL_COMMAND: no primitive call, no line changes.
TAG.RESERVED, met by the issue check of a latched EXECUTE, is that completion (log entry 15: the model's place for it). That the RP destinations are then unspecified, listing none, is of log entries 9 and 10. -/
def Obligations.ExecuteRejected : Prop :=
  (∀ (s : State) (rb : BitVec 1) (cmd : BitVec 7) (rm sm : Mode), s.fsm ≠ .halted → s.status.busy = false →
    ((∃ d ∈ s.sp, d.valid s.build.listForm sm = false) ∨ (∃ r ∈ s.rp, r.valid = false)) →
    ∃ w st, encode (.execute rb cmd rm sm) = .cmdw w ∧
      st = { s.status with busy := false, done := true, code := .illegalCommand, errByte := 0 } ∧
      exec (.execute rb cmd rm sm) s = .next { s with
        status := st
        cl := ⟨0x2, sm, rm, cmd⟩
        terr := terrDraw s.env.drawn
        env := { s.env with drawn := s.env.drawn + 1 }
        dst := []
        dstUnspec := true
        err := none
        fsm := .done
        log := s.log ++ [.issue w, .complete st.toWord] }) ∧
  ∀ (s : State) (t : BitVec 3), s.holdsTag ((1 : BitVec 1) ++ t) = true → s.status.busy = true → s.cl.op = 0x2 →
    (s.fsm = .idle ∨ s.fsm = .done) →
    ∃ st, st = { s.status with busy := false, done := true, code := .illegalCommand, errByte := 0 } ∧
      exec (.tagReserved t) s = .next { s with
        status := st
        terr := terrDraw s.env.drawn
        env := { s.env with drawn := s.env.drawn + 1 }
        dst := []
        dstUnspec := true
        err := none
        fsm := .done
        log := s.log ++ [.complete st.toWord] }

/-- 30_encoding.md R85: a reserved tag anywhere in SP or RP (element tags and element descriptors at any depth among them) makes EXECUTE complete with
ILLEGAL_COMMAND, with no line activity. -/
def Obligations.ReservedTagRejected : Prop :=
  ∀ (s : State) (t : BitVec 3) (rb : BitVec 1) (cmd : BitVec 7) (rm sm : Mode),
    s.holdsTag ((1 : BitVec 1) ++ t) = true → s.fsm ≠ .halted → s.status.busy = false →
      ∃ w u, encode (.execute rb cmd rm sm) = .cmdw w ∧ exec (.execute rb cmd rm sm) s = .next u ∧
        u.status.code = .illegalCommand ∧ u.fsm = .done ∧ u.status.busy = false ∧ u.status.done = true ∧
        u.selectN = s.selectN ∧ u.resetN = s.resetN ∧
        u.log = s.log ++ [.issue w, .complete u.status.toWord]

/-! ### Encoding parameters -/

/-- 00_scope.md R21, 30_encoding.md R93, R94: the sent prefix, and how a prefix and the scalars are put together from the received bytes, first received first. -/
def Obligations.PrefixAndAssembly : Prop :=
  maxLen .short = 255 ∧ maxLen .long = 65535 ∧
  (∀ l, l ≤ 255 → lenBytes .short l = [BitVec.ofNat 8 l]) ∧
  (∀ l, l ≤ 65535 → lenBytes .long l = [BitVec.ofNat 8 (l / 256), BitVec.ofNat 8 (l % 256)]) ∧
  ∀ b0 b1 b2 b3 : Byte,
    (join16 b0 b1).toNat = b0.toNat * 256 + b1.toNat ∧
    asmU8 [b0] = .u8 b0 ∧
    asmU16BE [b0, b1] = .u16 (BitVec.ofNat 16 (b0.toNat * 256 + b1.toNat)) ∧
    asmU16LE [b0, b1] = .u16 (BitVec.ofNat 16 (b1.toNat * 256 + b0.toNat)) ∧
    asmU32BE [b0, b1, b2, b3] =
      .u32 (BitVec.ofNat 32 (b0.toNat * 16777216 + b1.toNat * 65536 + b2.toNat * 256 + b3.toNat)) ∧
    asmU32LE [b0, b1, b2, b3] =
      .u32 (BitVec.ofNat 32 (b3.toNat * 16777216 + b2.toNat * 65536 + b1.toNat * 256 + b0.toNat))

/-- 30_encoding.md R90, R91: the prefix value and the payload bytes of each scalar tag, in either mode; spans go verbatim, and a null-terminated span takes a NUL,
which its prefix counts. -/
def Obligations.PayloadBytes : Prop :=
  ∀ (lf : ListForm) (m : Mode) (v8 : Byte) (v16 : Word16) (v32 : Word32) (d : List Byte),
    (SendDesc.u8 v8).bytes lf m = lenBytes m 1 ++ [v8] ∧
    (SendDesc.u16be v16).bytes lf m = lenBytes m 2 ++ [BitVec.ofNat 8 (v16.toNat / 256), BitVec.ofNat 8 v16.toNat] ∧
    (SendDesc.u16le v16).bytes lf m = lenBytes m 2 ++ [BitVec.ofNat 8 v16.toNat, BitVec.ofNat 8 (v16.toNat / 256)] ∧
    (SendDesc.u32be v32).bytes lf m = lenBytes m 4 ++ [BitVec.ofNat 8 (v32.toNat / 16777216),
      BitVec.ofNat 8 (v32.toNat / 65536), BitVec.ofNat 8 (v32.toNat / 256), BitVec.ofNat 8 v32.toNat] ∧
    (SendDesc.u32le v32).bytes lf m = lenBytes m 4 ++ [BitVec.ofNat 8 v32.toNat,
      BitVec.ofNat 8 (v32.toNat / 256), BitVec.ofNat 8 (v32.toNat / 65536), BitVec.ofNat 8 (v32.toNat / 16777216)] ∧
    (SendDesc.span d).bytes lf m = lenBytes m d.length ++ d ∧
    (SendDesc.nullterm d).bytes lf m = lenBytes m (d.length + 1) ++ (d ++ [NUL])

/-- 30_encoding.md R92: a sub-list is its count byte and its elements in the list's mode, under PREFIXED behind the byte length of both. -/
def Obligations.ListBytes : Prop :=
  ∀ (m : Mode) (et : BitVec 4) (elems : SendElems),
    (SendDesc.list et elems).bytes .countOnly m =
      [BitVec.ofNat 8 elems.toList.length] ++ elems.toList.flatMap (SendDesc.bytes .countOnly m) ∧
    (SendDesc.list et elems).bytes .prefixed m =
      lenBytes m (1 + (elems.toList.flatMap (SendDesc.bytes .prefixed m)).length) ++
        [BitVec.ofNat 8 elems.toList.length] ++ elems.toList.flatMap (SendDesc.bytes .prefixed m)

/-- 42_param_encode.md R160: EncLen is the number of bytes sent, and its table. -/
def Obligations.EncLenCounts : Prop :=
  ∀ (lf : ListForm) (m : Mode) (d : SendDesc),
    (d.bytes lf m).length = d.encLen lf m ∧
    match d with
    | .u8 _ => d.encLen lf m = lenWidth m + 1
    | .u16be _ => d.encLen lf m = lenWidth m + 2
    | .u16le _ => d.encLen lf m = lenWidth m + 2
    | .u32be _ => d.encLen lf m = lenWidth m + 4
    | .u32le _ => d.encLen lf m = lenWidth m + 4
    | .span bs => d.encLen lf m = lenWidth m + bs.length
    | .nullterm bs => d.encLen lf m = lenWidth m + bs.length + 1
    | .list _ elems =>
      d.encLen lf m = (if lf = .prefixed then lenWidth m else 0) + 1 + (elems.toList.map (SendDesc.encLen lf m)).sum
    | .reserved _ => d.encLen lf m = 0

/-- 42_param_encode.md R161, 43_param_decode.md R181: the validity of a send and of a receive descriptor. -/
def Obligations.ValidityChecks : Prop :=
  (∀ (lf : ListForm) (m : Mode) (d : SendDesc),
    d.valid lf m = true ↔
      match d with
      | .span bs => bs.length ≤ maxLen m
      | .nullterm bs => bs.length + 1 ≤ maxLen m
      | .list et elems => et.toNat < 8 ∧ elems.toList.length ≤ 255 ∧
          (∀ e ∈ elems.toList, e.tag = et ∧ e.valid lf m = true) ∧
          (lf = .prefixed → 1 + (elems.toList.map (SendDesc.encLen lf m)).sum ≤ maxLen m)
      | .reserved _ => False
      | _ => True) ∧
  ∀ r : RecvDesc,
    r.valid = true ↔
      match r with
      | .span cap => cap ≤ 65535
      | .nullterm cap => cap ≤ 65535
      | .list ecap ed => ecap ≤ 255 ∧ ed.valid = true
      | .reserved _ => False
      | _ => True

/-! ### The request -/

/-- 30_encoding.md R86, R96; 41_frame_codec.md R132: the request frame; its pad is fewer than 4 zero bytes and makes the length a multiple of 4. -/
def Obligations.RequestFrame : Prop :=
  ∀ s : State, ∃ pad, pad < 4 ∧
    s.requestBytes = [START, s.cl.cmd.zeroExtend 8] ++
      (if s.build.wv.countByte then [BitVec.ofNat 8 s.sp.length] else []) ++
      s.sp.flatMap (SendDesc.bytes s.build.listForm s.cl.smode) ++ [END] ++
      (if s.build.wv.pad4 then List.replicate pad 0x00 else []) ∧
    (s.build.wv.pad4 = true → s.requestBytes.length % 4 = 0)

/-- 40_handshake.md R111; 42_param_encode.md R152 to R159; 41_frame_codec.md R131, R132: each operation of the request sends its next byte with one exchange. What comes
back is only logged; TXN and the byte index rise; after the last byte comes Release. A failed exchange leaves TXN as it is. -/
def Obligations.SendsNextByte : Prop :=
  ∀ (s : State) (b : Byte) (opc : BitVec 7) (n : Byte),
    ∀ i ∈ [Instr.encU8, .encU16BE, .encU16LE, .encU32BE, .encU32LE, .encSpan, .encNullterm, .encList,
        .wireStart, .wireCmdReq opc, .wireCount n, .wireEnd, .wirePad],
      s.fsm = .tx → s.nextUnit = some (i, b) →
      (∀ r, s.env.xchg = .ok r →
        exec i s = .next { s with
          txn := s.txn + 1
          txIdx := s.txIdx + 1
          env := s.env.dropXchg
          fsm := if s.txIdx + 1 < s.requestUnits.length ∨ (s.build.wv.pad4 = true ∧ s.txn + 1 ≠ 0) then .tx else .rel
          log := s.log ++ [.xchg b (.ok r)] }) ∧
      (∀ e, s.env.xchg = .fail e →
        exec i s = .next { s with
          err := some (.transport e)
          fsm := .rel
          env := s.env.dropXchg
          log := s.log ++ [.xchg b (.fail e)] })

/-- 42_param_encode.md R151, R158, R159: the prefix, count and terminator units, where they are the bytes of the parameter being sent, are sent as its tag rule sends
them: one exchange of the byte. -/
def Obligations.SendsUnits : Prop :=
  ∀ (s : State) (b r : Byte) (i : Instr), s.fsm = .tx → s.nextUnit = some (i, b) → s.env.xchg = .ok r →
    (∀ u ∈ [Instr.wireLenShort b, .wireListCount b],
      ∃ t, exec u s = .next t ∧ t.log = s.log ++ [.xchg b (.ok r)] ∧ t.txIdx = s.txIdx + 1 ∧ t.txn = s.txn + 1 ∧
        t = { s with txn := t.txn, txIdx := t.txIdx, env := s.env.dropXchg, fsm := t.fsm, log := t.log }) ∧
    (b = NUL → ∃ t, exec .wireNul s = .next t ∧ t.log = s.log ++ [.xchg NUL (.ok r)] ∧ t.txIdx = s.txIdx + 1 ∧
      t.txn = s.txn + 1 ∧
      t = { s with txn := t.txn, txIdx := t.txIdx, env := s.env.dropXchg, fsm := t.fsm, log := t.log }) ∧
    (∀ j lo, s.requestUnits[s.txIdx + 1]? = some (j, lo) →
      ∃ t, exec (.wireLenLong (b ++ lo)) s = .next t ∧ t.log = s.log ++ [.xchg b (.ok r)] ∧ t.txIdx = s.txIdx + 1 ∧
        t.txn = s.txn + 1 ∧
        t = { s with txn := t.txn, txIdx := t.txIdx, env := s.env.dropXchg, fsm := t.fsm, log := t.log }) ∧
    (∀ j hi, 0 < s.txIdx → s.requestUnits[s.txIdx - 1]? = some (j, hi) → s.requestUnits[s.txIdx]? = some (i, b) →
      ∃ t, exec (.wireLenLong (hi ++ b)) s = .next t ∧ t.log = s.log ++ [.xchg b (.ok r)] ∧ t.txIdx = s.txIdx + 1 ∧
        t.txn = s.txn + 1 ∧
        t = { s with txn := t.txn, txIdx := t.txIdx, env := s.env.dropXchg, fsm := t.fsm, log := t.log })

/-- 41_frame_codec.md R133: the bytes sent without failure are exactly the request frame (RequestFrame says which bytes), each by one exchange, in order, whatever the peer answers; then
Release comes next. And their number. -/
def Obligations.RequestSent : Prop :=
  (∀ s : State, ∀ n, n = 2 + (if s.build.wv.countByte then 1 else 0) +
      (s.sp.map (SendDesc.encLen s.build.listForm s.cl.smode)).sum + 1 →
    s.requestBytes.length = n + if s.build.wv.pad4 then (4 - n % 4) % 4 else 0) ∧
  ∀ (s : State) (rs : List Byte) (more : List XchgDraw), s.hostq = [] → s.fsm = .tx → s.txIdx = 0 → s.txn = 0 →
    rs.length = s.requestBytes.length → s.env.xchgIn = rs.map .ok ++ more →
    Sys2Proof.core.run s.requestBytes.length s = .next { s with
      txn := BitVec.ofNat 2 s.requestBytes.length
      txIdx := s.requestBytes.length
      env := { s.env with xchgIn := more }
      fsm := .rel
      log := s.log ++ s.requestBytes.zipWith (fun b r => .xchg b (.ok r)) rs }

/-! ### Acquire and release -/

/-- 40_handshake.md R113: each sample and the Select write of an acquire. -/
def Obligations.AcquireSteps : Prop :=
  ∀ s : State, s.hostq = [] →
    (∀ v, s.env.ready = .ok v → s.fsm = .acqNr →
      step s = .next { s with env := s.env.dropReady, log := s.log ++ [.ready (.ok v)],
                              fsm := if v then .acqNr else .acqR }) ∧
    (∀ v, s.env.ready = .ok v → s.fsm = .acqR →
      step s = .next { s with env := s.env.dropReady, log := s.log ++ [.ready (.ok v)],
                              fsm := if v then .acqSel else .acqR }) ∧
    (∀ e, s.env.ready = .fail e → (s.fsm = .acqNr ∨ s.fsm = .acqR) →
      step s = .next { s with env := s.env.dropReady, log := s.log ++ [.ready (.fail e)],
                              err := some (.transport e), fsm := .rel }) ∧
    (s.env.write = .ok → s.fsm = .acqSel → s.ph = .req →
      step s = .next { s with env := s.env.dropWrite, log := s.log ++ [.write .selectN false none],
                              selectN := false, txn := 0, txIdx := 0, fsm := .tx }) ∧
    (s.env.write = .ok → s.fsm = .acqSel → s.ph = .rep → 0 < s.build.scanCeiling →
      step s = .next { s with env := s.env.dropWrite, log := s.log ++ [.write .selectN false none],
                              selectN := false, scnt := 0, fsm := .rxScan }) ∧
    (s.env.write = .ok → s.fsm = .acqSel → s.ph = .rep → s.build.scanCeiling = 0 →
      step s = .next { s with env := s.env.dropWrite, log := s.log ++ [.write .selectN false none],
                              selectN := false, scnt := 0, err := some .timeout, fsm := .rel }) ∧
    (∀ e l, s.env.write = .fail e l → s.fsm = .acqSel →
      step s = .next { s with env := s.env.dropWrite, log := s.log ++ [.write .selectN false (some e)],
                              selectN := l, err := some (.transport e), fsm := .rel })

/-- 40_handshake.md R113, 70_reset_and_hazards.md R251: while the peer withholds the awaited level the block samples Ready, once a step, and nothing else
happens, however long. -/
def Obligations.AcquireHangs : Prop :=
  ∀ (n : Nat) (s : State) (more : List ReadyDraw) (v : Bool), s.hostq = [] →
    ((s.fsm = .acqR ∧ v = false) ∨ (s.fsm = .acqNr ∧ v = true)) →
    s.env.readyIn = List.replicate n (.ok v) ++ more →
    Sys2Proof.core.run n s = .next { s with
      env := { s.env with readyIn := more }
      log := s.log ++ List.replicate n (.ready (.ok v)) }

/-- 40_handshake.md R116, 44_transaction.md R190: a good Release with no failure before it: the request phase is followed by the reply phase's acquire, the reply
phase by Complete(OK). -/
def Obligations.PhaseEnds : Prop :=
  ∀ s : State, s.hostq = [] → s.fsm = .rel → s.env.write = .ok → s.err = none →
    (s.ph = .req →
      step s = .next { s with env := s.env.dropWrite, log := s.log ++ [.write .selectN true none], selectN := true,
                              ph := .rep, fsm := if s.build.wv.waitNotReady then .acqNr else .acqR }) ∧
    (s.ph = .rep →
      ∃ st, st = { s.status with busy := false, done := true, code := .ok, errByte := 0 } ∧
        step s = .next { s with
          selectN := true
          status := st
          terr := terrDraw s.env.dropWrite.drawn
          env := { s.env.dropWrite with drawn := s.env.dropWrite.drawn + 1 }
          fsm := .done
          log := s.log ++ [.write .selectN true none, .complete st.toWord] })

/-- 40_handshake.md R116, 44_transaction.md R193, R194, 60_exceptions.md R219: Release is attempted once, and the first failure is reported: the phase's, or else Release's own.
A failed EXECUTE leaves every receive destination unspecified; that `dst` then lists none is the model's choice (log entry 9). -/
def Obligations.FirstFailureWins : Prop :=
  ∀ (s : State) (f : Failure), s.hostq = [] → s.fsm = .rel → s.cl.op = 0x2 →
    (s.err = some f ∨ (s.err = none ∧ ∃ e l, s.env.write = .fail e l ∧ f = .transport e)) →
    ∃ t st, step s = .next t ∧
      st = { s.status with busy := false, done := true, code := f.code, errByte := f.byte } ∧
      t.status = st ∧ (∀ e, f = .transport e → t.terr = e) ∧
      t.selectN = writeLevel true s.env.write ∧
      t.log = s.log ++ [.write .selectN true (writeFailure s.env.write), .complete st.toWord] ∧
      t = { s with selectN := t.selectN, status := t.status, terr := t.terr, env := t.env, dst := [],
                   dstUnspec := true, err := none,
                   fsm := .done, log := t.log }

/-! ### The reply outside the parameters -/

/-- 41_frame_codec.md R135, R136: which unit a scan byte is, and what each does, one exchange of RX_FILL each: START ends the scan, ERR fails it, any other byte is skipped
unless it was the last read the ceiling allows. -/
def Obligations.ScanUnits : Prop :=
  ∀ s : State, s.fsm = .rxScan →
    decode .scan (.wire [START]) = .ok .wireStart ∧ decode .scan (.wire [ERR]) = .ok .wireErr ∧
    (∀ b, b ≠ START → b ≠ ERR → decode .scan (.wire [b]) = .ok (.wireSkip b)) ∧
    exec .wireStart s = .next { s with scnt := s.scnt + 1, fsm := .rxCmd, env := s.env.dropXchg,
                                       log := s.log ++ [.xchg s.build.rxFill (.ok START)] } ∧
    exec .wireErr s = .next { s with scnt := s.scnt + 1, err := some .errorResponse, fsm := .rel, env := s.env.dropXchg,
                                     log := s.log ++ [.xchg s.build.rxFill (.ok ERR)] } ∧
    (∀ b, b ≠ START → b ≠ ERR →
      (s.scnt + 1 ≠ s.build.scanCeiling →
        exec (.wireSkip b) s = .next { s with scnt := s.scnt + 1, env := s.env.dropXchg,
                                              log := s.log ++ [.xchg s.build.rxFill (.ok b)] }) ∧
      (s.scnt + 1 = s.build.scanCeiling →
        exec (.wireSkip b) s = .next { s with scnt := s.scnt + 1, err := some .timeout, fsm := .rel, env := s.env.dropXchg,
                                              log := s.log ++ [.xchg s.build.rxFill (.ok b)] }))

/-- 60_exceptions.md R212: TIMEOUT comes after exactly SCAN_CEILING reads, none of which was START or ERR. -/
def Obligations.ScanTimesOut : Prop :=
  ∀ (s : State) (bs : List Byte) (more : List XchgDraw), s.hostq = [] → s.fsm = .rxScan → s.scnt = 0 →
    0 < s.build.scanCeiling → bs.length = s.build.scanCeiling → (∀ b ∈ bs, b ≠ START ∧ b ≠ ERR) →
    s.env.xchgIn = bs.map .ok ++ more →
    Sys2Proof.core.run s.build.scanCeiling s = .next { s with
      scnt := s.build.scanCeiling
      err := some .timeout
      fsm := .rel
      env := { s.env with xchgIn := more }
      log := s.log ++ bs.map (fun b => .xchg s.build.rxFill (.ok b)) }

/-- 41_frame_codec.md R135: START is found on any read up to the ceiling-th, after bytes that are no sentinels. -/
def Obligations.ScanFindsStart : Prop :=
  ∀ (s : State) (bs : List Byte) (more : List XchgDraw), s.hostq = [] → s.fsm = .rxScan → s.scnt = 0 →
    bs.length + 1 ≤ s.build.scanCeiling → (∀ b ∈ bs, b ≠ START ∧ b ≠ ERR) →
    s.env.xchgIn = bs.map .ok ++ .ok START :: more →
    Sys2Proof.core.run (bs.length + 1) s = .next { s with
      scnt := bs.length + 1
      fsm := .rxCmd
      env := { s.env with xchgIn := more }
      log := s.log ++ (bs ++ [START]).map (fun b => .xchg s.build.rxFill (.ok b)) }

/-- 41_frame_codec.md R141: a reply that begins with ERR: one exchange, the Release, and the operation is complete with ERROR_RESPONSE. The receive destinations are then
unspecified; that `dst` lists none is the model's choice (log entry 9). -/
def Obligations.ErrReply : Prop :=
  ∀ (s : State) (more : List XchgDraw) (w : List WriteDraw), s.hostq = [] → s.fsm = .rxScan → s.cl.op = 0x2 →
    s.env.xchgIn = .ok ERR :: more → s.env.writeIn = .ok :: w →
    ∃ t, Sys2Proof.core.run 2 s = .next t ∧ t.fsm = .done ∧ t.selectN = true ∧
      t.status = { s.status with busy := false, done := true, code := .errorResponse, errByte := 0 } ∧
      t.env.xchgIn = more ∧ t.dst = [] ∧ t.dstUnspec = true ∧
      t.log = s.log ++ [.xchg s.build.rxFill (.ok ERR), .write .selectN true none, .complete t.status.toWord]

/-- 41_frame_codec.md R137: the command-identifier check, for a byte of either reply bit. -/
def Obligations.CmdCheck : Prop :=
  ∀ s : State, s.fsm = .rxCmd →
    (∀ opc, exec (.wireCmdReq opc) s = .next { s with
      err := some (.unexpectedByte ((0 : BitVec 1) ++ opc)), fsm := .rel, env := s.env.dropXchg,
      log := s.log ++ [.xchg s.build.rxFill (.ok ((0 : BitVec 1) ++ opc))] }) ∧
    (∀ opc, opc ≠ s.cl.cmd → exec (.wireCmdReply opc) s = .next { s with
      err := some (.unexpectedByte ((1 : BitVec 1) ++ opc)), fsm := .rel, env := s.env.dropXchg,
      log := s.log ++ [.xchg s.build.rxFill (.ok ((1 : BitVec 1) ++ opc))] }) ∧
    (s.build.wv.countByte = true → exec (.wireCmdReply s.cl.cmd) s = .next { s with
      fsm := .rxCount, env := s.env.dropXchg,
      log := s.log ++ [.xchg s.build.rxFill (.ok ((1 : BitVec 1) ++ s.cl.cmd))] }) ∧
    (s.build.wv.countByte = false → exec (.wireCmdReply s.cl.cmd) s = .next { s with
      fsm := if 0 < s.rp.length then .rxParam else .rxEnd
      cur := { s.cur with p := 0, stack := [], i := 0, stage := openStage s.build.listForm s.rp[0]?, held := [] }
      env := s.env.dropXchg
      log := s.log ++ [.xchg s.build.rxFill (.ok ((1 : BitVec 1) ++ s.cl.cmd))] })

/-- 41_frame_codec.md R138: the count check. -/
def Obligations.CountCheck : Prop :=
  ∀ (s : State) (n : Byte), s.fsm = .rxCount →
    (n.toNat ≠ s.rp.length → exec (.wireCount n) s = .next { s with
      err := some (.unexpectedByte n), fsm := .rel, env := s.env.dropXchg,
      log := s.log ++ [.xchg s.build.rxFill (.ok n)] }) ∧
    (n.toNat = s.rp.length → exec (.wireCount n) s = .next { s with
      fsm := if 0 < s.rp.length then .rxParam else .rxEnd
      cur := { s.cur with p := 0, stack := [], i := 0, stage := openStage s.build.listForm s.rp[0]?, held := [] }
      env := s.env.dropXchg
      log := s.log ++ [.xchg s.build.rxFill (.ok n)] })

/-- 41_frame_codec.md R139, R140: END leads to the Release, with nothing more read; any other byte is UNEXPECTED_BYTE; a failed read is TRANSPORT. -/
def Obligations.EndCheck : Prop :=
  ∀ s : State, s.fsm = .rxEnd →
    (∀ e, s.hostq = [] → s.env.xchg = .fail e →
      step s = .next { s with err := some (.transport e), fsm := .rel, env := s.env.dropXchg,
                              log := s.log ++ [.xchg s.build.rxFill (.fail e)] }) ∧
    exec .wireEnd s = .next { s with fsm := .rel, env := s.env.dropXchg,
                                     log := s.log ++ [.xchg s.build.rxFill (.ok END)] } ∧
    (∀ b, b ≠ END → s.hostq = [] → s.env.xchg = .ok b →
      step s = .next { s with err := some (.unexpectedByte b), fsm := .rel, env := s.env.dropXchg,
                              log := s.log ++ [.xchg s.build.rxFill (.ok b)] })

/-- 40_handshake.md R112, R118, 60_exceptions.md R219: a failed read in any reading state is TRANSPORT with its own value, and no check is made. -/
def Obligations.ReadFails : Prop :=
  ∀ (s : State) (e : IoErr), s.env.xchg = .fail e →
    (∀ f ∈ [Fsm.rxScan, .rxCmd, .rxCount, .rxEnd], s.fsm = f → s.hostq = [] →
      step s = .next { s with err := some (.transport e), fsm := .rel, env := s.env.dropXchg,
                              log := s.log ++ [.xchg s.build.rxFill (.fail e)] }) ∧
    (∀ r, s.fsm = .rxParam → s.curDesc = some r → tagReserved r.tag = false →
      exec (decodeRecvTag r.tag) s = .next { s with err := some (.transport e), fsm := .rel, env := s.env.dropXchg,
                                                    log := s.log ++ [.xchg s.build.rxFill (.fail e)] })

/-! ### Decoding parameters

`s.consumed.cur` is the cursor `s.cur` with one byte more consumed by every enclosing sub-list (43_param_decode.md R179), as LongPrefixFirstByte writes it out. -/

/-- 43_param_decode.md R171 to R176: the prefix of a scalar, in either mode. A value other than the width is MALFORMED_LENGTH at once, with no payload byte read and nothing
written; the width leads to the payload. `l` is the prefix value that the byte `b` completes. -/
def Obligations.ScalarPrefix : Prop :=
  ∀ (s : State) (b : Byte) (l : Word16), s.fsm = .rxParam → s.env.xchg = .ok b →
    ((s.cl.rmode = .short ∧ s.cur.stage = .len0 ∧ l = BitVec.ofNat 16 b.toNat) ∨
      (s.cur.stage = .len1 ∧ ∃ hi : Byte, s.cur.held = [hi] ∧ l = BitVec.ofNat 16 (hi.toNat * 256 + b.toNat))) →
    ∀ x ∈ [(RecvDesc.u8, Instr.decU8, 1), (.u16be, .decU16BE, 2), (.u16le, .decU16LE, 2), (.u32be, .decU32BE, 4),
        (.u32le, .decU32LE, 4)], s.curDesc = some x.1 →
      (l.toNat ≠ x.2.2 → exec x.2.1 s = .next { s with
        err := some .malformedLength
        fsm := .rel
        cur := { s.consumed.cur with len := l }
        env := s.env.dropXchg
        log := s.log ++ [.xchg s.build.rxFill (.ok b)] }) ∧
      (l.toNat = x.2.2 → exec x.2.1 s = .next { s with
        cur := { s.consumed.cur with stage := .payload, i := 0, len := l, held := [] }
        env := s.env.dropXchg
        log := s.log ++ [.xchg s.build.rxFill (.ok b)] })

/-- 43_param_decode.md R171, R179: the first byte of a long prefix is held, most significant byte first, for every tag that has a prefix there. Every enclosing sub-list has consumed one byte more,
and nothing else changes. -/
def Obligations.LongPrefixFirstByte : Prop :=
  ∀ (s : State) (b : Byte) (r : RecvDesc), s.fsm = .rxParam → s.env.xchg = .ok b → s.curDesc = some r →
    tagReserved r.tag = false → s.cl.rmode = .long → s.cur.stage = .len0 →
    exec (decodeRecvTag r.tag) s = .next { s with
      cur := { s.cur with
        stack := s.cur.stack.map (fun f => { f with consumed := f.consumed + 1 })
        stage := .len1
        held := [b] }
      env := s.env.dropXchg
      log := s.log ++ [.xchg s.build.rxFill (.ok b)] }

/-- 43_param_decode.md R172 to R176, 30_encoding.md R94: a payload byte of a scalar that is not its last is held, and nothing is written. At the last one `v` is written to its slot, whatever the nesting,
and the item ends (ListAdvances); the other slots keep their values, but for the sub-lists that end with it. -/
def Obligations.ScalarValue : Prop :=
  (∀ (s : State) (b : Byte), s.fsm = .rxParam → s.env.xchg = .ok b → s.cur.stage = .payload →
    ∀ x ∈ [(RecvDesc.u16be, Instr.decU16BE, 2), (.u16le, .decU16LE, 2), (.u32be, .decU32BE, 4), (.u32le, .decU32LE, 4)],
      s.curDesc = some x.1 → s.cur.i + 1 < x.2.2 →
      exec x.2.1 s = .next { s with
        cur := { s.consumed.cur with i := s.cur.i + 1, held := s.cur.held ++ [b] }
        env := s.env.dropXchg
        log := s.log ++ [.xchg s.build.rxFill (.ok b)] }) ∧
  ∀ (s : State) (b b0 b1 b2 : Byte), s.fsm = .rxParam → s.env.xchg = .ok b → s.cur.stage = .payload →
    ∀ x ∈ [(RecvDesc.u8, Instr.decU8, ([] : List Byte), Leaf.u8 b),
        (.u16be, .decU16BE, [b0], .u16 (BitVec.ofNat 16 (b0.toNat * 256 + b.toNat))),
        (.u16le, .decU16LE, [b0], .u16 (BitVec.ofNat 16 (b.toNat * 256 + b0.toNat))),
        (.u32be, .decU32BE, [b0, b1, b2],
          .u32 (BitVec.ofNat 32 (b0.toNat * 16777216 + b1.toNat * 65536 + b2.toNat * 256 + b.toNat))),
        (.u32le, .decU32LE, [b0, b1, b2],
          .u32 (BitVec.ofNat 32 (b.toNat * 16777216 + b2.toNat * 65536 + b1.toNat * 256 + b0.toNat)))],
      s.curDesc = some x.1 → s.cur.held = x.2.2.1 → s.cur.i = x.2.2.1.length →
      ∃ t, exec x.2.1 s = .next t ∧ t.dst.get s.curSlot = some x.2.2.2 ∧
        (∀ q : Slot, ¬ q <+: s.curSlot → t.dst.get q = s.dst.get q) ∧
        t = State.advance { s.consumed with
          dst := s.dst.set s.curSlot x.2.2.2
          env := s.env.dropXchg
          log := s.log ++ [.xchg s.build.rxFill (.ok b)] } s.consumed.cur.stack ∧
        t.log = s.log ++ [.xchg s.build.rxFill (.ok b)] ∧
        t = { s with fsm := t.fsm, cur := t.cur, dst := t.dst, err := t.err, env := s.env.dropXchg, log := t.log }

/-- 43_param_decode.md R177, R178, R183; 60_exceptions.md R216: the prefix of a span and of a null-terminated span: MALFORMED_LENGTH for a null-terminated prefix of 0, then CAPACITY_EXCEEDED, both before
any payload byte and with nothing written; an empty span has RLEN 0 at once; otherwise the payload begins. -/
def Obligations.SpanPrefix : Prop :=
  ∀ (s : State) (b : Byte) (l : Word16) (cap : Nat), s.fsm = .rxParam → s.env.xchg = .ok b →
    ((s.cl.rmode = .short ∧ s.cur.stage = .len0 ∧ l = BitVec.ofNat 16 b.toNat) ∨
      (s.cur.stage = .len1 ∧ ∃ hi : Byte, s.cur.held = [hi] ∧ l = BitVec.ofNat 16 (hi.toNat * 256 + b.toNat))) →
    (s.curDesc = some (.span cap) → cap < l.toNat →
      exec .decSpan s = .next { s with
        err := some .capacityExceeded
        fsm := .rel
        cur := { s.consumed.cur with len := l }
        env := s.env.dropXchg
        log := s.log ++ [.xchg s.build.rxFill (.ok b)] }) ∧
    (s.curDesc = some (.span cap) → l.toNat = 0 →
      ∃ t, exec .decSpan s = .next t ∧ t.dst.get s.curSlot = some (.bytes (s.dst.buffer s.curSlot) (some 0)) ∧
        (∀ q : Slot, ¬ q <+: s.curSlot → t.dst.get q = s.dst.get q) ∧
        t = State.advance { s.consumed with
          cur := { s.consumed.cur with len := l }
          dst := s.dst.setRlen s.curSlot 0
          env := s.env.dropXchg
          log := s.log ++ [.xchg s.build.rxFill (.ok b)] } s.consumed.cur.stack ∧
        t.log = s.log ++ [.xchg s.build.rxFill (.ok b)] ∧
        t = { s with fsm := t.fsm, cur := t.cur, dst := t.dst, err := t.err, env := s.env.dropXchg, log := t.log }) ∧
    (s.curDesc = some (.span cap) → l.toNat ≤ cap → 0 < l.toNat →
      exec .decSpan s = .next { s with
        cur := { s.consumed.cur with stage := .payload, i := 0, len := l, held := [] }
        env := s.env.dropXchg
        log := s.log ++ [.xchg s.build.rxFill (.ok b)] }) ∧
    (s.curDesc = some (.nullterm cap) → l.toNat = 0 →
      exec .decNullterm s = .next { s with
        err := some .malformedLength
        fsm := .rel
        cur := { s.consumed.cur with len := l }
        env := s.env.dropXchg
        log := s.log ++ [.xchg s.build.rxFill (.ok b)] }) ∧
    (s.curDesc = some (.nullterm cap) → cap + 1 < l.toNat →
      exec .decNullterm s = .next { s with
        err := some .capacityExceeded
        fsm := .rel
        cur := { s.consumed.cur with len := l }
        env := s.env.dropXchg
        log := s.log ++ [.xchg s.build.rxFill (.ok b)] }) ∧
    (s.curDesc = some (.nullterm cap) → 0 < l.toNat → l.toNat ≤ cap + 1 →
      exec .decNullterm s = .next { s with
        cur := { s.consumed.cur with stage := .payload, i := 0, len := l, held := [] }
        env := s.env.dropXchg
        log := s.log ++ [.xchg s.build.rxFill (.ok b)] })

/-- 43_param_decode.md R177, R178: a data byte goes to the buffer of the current slot at the payload index; every other index of that buffer, every other slot and all other state
are unchanged, but that every enclosing sub-list has consumed one byte more. -/
def Obligations.SpanByteStored : Prop :=
  ∀ (s : State) (b : Byte) (cap : Nat), s.fsm = .rxParam → s.env.xchg = .ok b → s.cur.stage = .payload →
    s.cur.i + 1 < s.cur.len.toNat →
    ∀ x ∈ [(RecvDesc.span cap, Instr.decSpan), (.nullterm cap, .decNullterm)], s.curDesc = some x.1 →
      ∃ t, exec x.2 s = .next t ∧
        (t.dst.buffer s.curSlot).read s.cur.i = some b ∧
        (∀ a, a ≠ s.cur.i → (t.dst.buffer s.curSlot).read a = (s.dst.buffer s.curSlot).read a) ∧
        (∀ q, q ≠ s.curSlot → t.dst.get q = s.dst.get q) ∧
        t = { s with
          cur := { s.consumed.cur with i := s.cur.i + 1 }
          dst := t.dst
          env := s.env.dropXchg
          log := s.log ++ [.xchg s.build.rxFill (.ok b)] }

/-- 43_param_decode.md R177, R178: the end of a span (its last data byte stored) and of a null-terminated span (its NUL not stored): RLEN is the received length without the terminator, and
the bytes before keep their places. Then the item ends (ListAdvances). -/
def Obligations.SpanEnds : Prop :=
  ∀ (s : State) (b : Byte) (cap : Nat), s.fsm = .rxParam → s.env.xchg = .ok b → s.cur.stage = .payload →
    s.cur.i + 1 = s.cur.len.toNat →
    (s.curDesc = some (.span cap) →
      ∃ t buf, exec .decSpan s = .next t ∧ t.dst.get s.curSlot = some (.bytes buf (some s.cur.len.toNat)) ∧
        buf.read s.cur.i = some b ∧
        (∀ a, a ≠ s.cur.i → buf.read a = (s.dst.buffer s.curSlot).read a) ∧
        (∀ q : Slot, ¬ q <+: s.curSlot → t.dst.get q = s.dst.get q) ∧
        t = State.advance { s.consumed with
          dst := s.dst.set s.curSlot (.bytes buf (some s.cur.len.toNat))
          env := s.env.dropXchg
          log := s.log ++ [.xchg s.build.rxFill (.ok b)] } s.consumed.cur.stack ∧
        t.log = s.log ++ [.xchg s.build.rxFill (.ok b)] ∧
        t = { s with fsm := t.fsm, cur := t.cur, dst := t.dst, err := t.err, env := s.env.dropXchg, log := t.log }) ∧
    (s.curDesc = some (.nullterm cap) → b = NUL →
      ∃ t, exec .decNullterm s = .next t ∧
        t.dst.get s.curSlot = some (.bytes (s.dst.buffer s.curSlot) (some (s.cur.len.toNat - 1))) ∧
        (∀ q : Slot, ¬ q <+: s.curSlot → t.dst.get q = s.dst.get q) ∧
        t = State.advance { s.consumed with
          dst := s.dst.setRlen s.curSlot (s.cur.len.toNat - 1)
          env := s.env.dropXchg
          log := s.log ++ [.xchg s.build.rxFill (.ok b)] } s.consumed.cur.stack ∧
        t.log = s.log ++ [.xchg s.build.rxFill (.ok b)] ∧
        t = { s with fsm := t.fsm, cur := t.cur, dst := t.dst, err := t.err, env := s.env.dropXchg, log := t.log })

/-- 60_exceptions.md R217: a nonzero terminator: FAULT, CODE 8, ERRBYTE the byte, BUSY 0, DONE 1, every receive destination unspecified, SELECT_N a draw, HALTED. After it the block makes no further
call and ignores every CMDW write. That COMPLETE is the only event after the read is log entry 27 (program P5 allows a Release event too), and that `dst` then lists no destination is log entry 9. -/
def Obligations.TerminatorFault : Prop :=
  (∀ (s : State) (b : Byte) (cap : Nat), s.fsm = .rxParam → s.env.xchg = .ok b → s.cur.stage = .payload →
    s.cur.i + 1 = s.cur.len.toNat → s.curDesc = some (.nullterm cap) → b ≠ NUL →
    ∃ t, exec .decNullterm s = .next t ∧
      t.status = ⟨false, true, true, .terminator, b⟩ ∧ t.fsm = .halted ∧ t.dst = [] ∧ t.dstUnspec = true ∧
      t.selectN = s.env.dropXchg.level ∧
      t.log = s.log ++ [.xchg s.build.rxFill (.ok b), .complete ((b.zeroExtend 16 <<< 8) + 0x0086)] ∧
      t = { s with status := t.status, fsm := t.fsm, dst := [], dstUnspec := true, selectN := t.selectN, terr := t.terr,
                   cur := s.consumed.cur, env := t.env, log := t.log }) ∧
  ∀ s : State, s.fsm = .halted →
    (∀ t, step s = .next t → t.fsm = .halted ∧ t.log = s.log ∧ t.status = s.status ∧ t.selectN = s.selectN ∧ t.resetN = s.resetN) ∧
    (∀ w rest, s.hostq = .writeReg .cmdw w :: rest → s.status.busy = false → step s = .next { s with hostq := rest }) ∧
    (∀ i, Site.cmdw ∈ i.sites → exec i s = .next s)

/-- 43_param_decode.md R179: a sub-list's outer prefix, where it has one: any value is taken, and the element count comes next; nothing is written. -/
def Obligations.ListPrefix : Prop :=
  ∀ (s : State) (b : Byte) (l : Word16) (ecap : Nat) (ed : RecvDesc), s.fsm = .rxParam → s.env.xchg = .ok b →
    s.curDesc = some (.list ecap ed) →
    ((s.cl.rmode = .short ∧ s.cur.stage = .len0 ∧ l = BitVec.ofNat 16 b.toNat) ∨
      (s.cur.stage = .len1 ∧ ∃ hi : Byte, s.cur.held = [hi] ∧ l = BitVec.ofNat 16 (hi.toNat * 256 + b.toNat))) →
    exec .decList s = .next { s with
      cur := { s.consumed.cur with stage := .count, i := 0, len := l, held := [] }
      env := s.env.dropXchg
      log := s.log ++ [.xchg s.build.rxFill (.ok b)] }

/-- 43_param_decode.md R179, 10_state.md R41: the element count of a sub-list: above the capacity it fails at once; otherwise the list's frame is pushed (element 0 of the count; under PREFIXED the outer prefix as the expected
length; the count byte consumed) and the first element begins, in the list's own slot, at index 0. An empty list ends at once. -/
def Obligations.ListCount : Prop :=
  ∀ (s : State) (b : Byte) (ecap : Nat) (ed : RecvDesc), s.fsm = .rxParam → s.env.xchg = .ok b → s.cur.stage = .count →
    s.curDesc = some (.list ecap ed) →
    (ecap < b.toNat → exec .decList s = .next { s with
      err := some .capacityExceeded
      fsm := .rel
      cur := s.consumed.cur
      env := s.env.dropXchg
      log := s.log ++ [.xchg s.build.rxFill (.ok b)] }) ∧
    (b.toNat ≤ ecap → 0 < b.toNat → ∃ t, exec .decList s = .next t ∧
      t.curDesc = some ed ∧ t.curSlot = s.curSlot ++ [0] ∧
      t = { s with
        cur := { s.consumed.cur with
          stack := ⟨0, b.toNat, if s.build.listForm = .prefixed then some s.cur.len.toNat else none, 1⟩ :: s.consumed.cur.stack
          i := 0
          stage := openStage s.build.listForm (some ed)
          held := [] }
        env := s.env.dropXchg
        log := s.log ++ [.xchg s.build.rxFill (.ok b)] }) ∧
    (b.toNat = 0 → (s.build.listForm = .countOnly ∨ s.cur.len = 1) → ∃ t, exec .decList s = .next t ∧
      t.dst.get s.curSlot = some (.count 0) ∧ (∀ q : Slot, ¬ q <+: s.curSlot → t.dst.get q = s.dst.get q) ∧
      t = State.advance { s.consumed with
        dst := s.dst.set s.curSlot (.count 0)
        env := s.env.dropXchg
        log := s.log ++ [.xchg s.build.rxFill (.ok b)] } s.consumed.cur.stack ∧
      t.log = s.log ++ [.xchg s.build.rxFill (.ok b)] ∧
      t = { s with fsm := t.fsm, cur := t.cur, dst := t.dst, err := t.err, env := s.env.dropXchg, log := t.log }) ∧
    (b.toNat = 0 → s.build.listForm = .prefixed → s.cur.len ≠ 1 → exec .decList s = .next { s with
      err := some .malformedLength
      fsm := .rel
      cur := s.consumed.cur
      env := s.env.dropXchg
      log := s.log ++ [.xchg s.build.rxFill (.ok b)] })

/-- 43_param_decode.md R179: the end of an element: the next element while one is left; else the length check of PREFIXED; else RCNT at the list's slot, and the same for the list around it. -/
def Obligations.ListAdvances : Prop :=
  ∀ (s : State) (f : Frame) (rest : List Frame),
    (f.j + 1 < f.k → (s.advance (f :: rest)).curSlot = slotOf s.cur.p rest ++ [f.j + 1] ∧
      (s.advance (f :: rest)).dst = s.dst ∧ (s.advance (f :: rest)).fsm = .rxParam) ∧
    (∀ t, ¬ f.j + 1 < f.k → f.expect = some t → f.consumed ≠ t →
      s.advance (f :: rest) = { s with err := some .malformedLength, fsm := .rel }) ∧
    (¬ f.j + 1 < f.k → (f.expect = none ∨ f.expect = some f.consumed) →
      s.advance (f :: rest) = State.advance { s with dst := s.dst.set (slotOf s.cur.p rest) (.count f.k) } rest) ∧
    (s.cur.p + 1 < s.rp.length → (s.advance []).fsm = .rxParam ∧ (s.advance []).curSlot = [s.cur.p + 1]) ∧
    (s.rp.length ≤ s.cur.p + 1 → (s.advance []).fsm = .rxEnd) ∧
    (s.advance []).dst = s.dst

/-- 43_param_decode.md R171, R178, R179; 30_encoding.md R97: a prefix, count or terminator unit that an exchange brings inside a parameter is received as the current tag's rule receives it. -/
def Obligations.UnitsReceived : Prop :=
  ∀ (s : State) (b : Byte) (r : RecvDesc), s.fsm = .rxParam → s.curDesc = some r → tagReserved r.tag = false →
    s.env.xchg = .ok b →
    ∃ t, exec (decodeRecvTag r.tag) s = .next t ∧ exec (.wireLenShort b) s = .next t ∧ exec (.wireListCount b) s = .next t ∧
      (b = NUL → exec .wireNul s = .next t) ∧
      (∀ lo : Byte, s.cl.rmode = .long → s.cur.stage = .len0 → exec (.wireLenLong (b ++ lo)) s = .next t) ∧
      (∀ hi : Byte, s.cl.rmode = .long → s.cur.stage = .len1 → s.cur.held = [hi] → exec (.wireLenLong (hi ++ b)) s = .next t)

/-- 43_param_decode.md R182: the inverse law. A valid send descriptor's bytes, fed to the decode of a receive descriptor of the same shape, are all read, no more and no fewer than EncLen, and leave its value: scalars, spans, null-terminated
spans and sub-lists of any depth. The slots of the parameter hold no value before (10_state.md R48). -/
def Obligations.InverseLaw : Prop :=
  ∀ (s : State) (d : SendDesc) (r : RecvDesc) (more : List XchgDraw), s.hostq = [] → s.fsm = .rxParam →
    s.rp[s.cur.p]? = some r → s.cur.stack = [] → s.cur.i = 0 → s.cur.held = [] →
    s.cur.stage = openStage s.build.listForm (some r) →
    (∀ x ∈ s.dst, x.1.head? ≠ some s.cur.p) →
    d.valid s.build.listForm s.cl.rmode = true → d.fitsIn r = true →
    s.env.xchgIn = (d.bytes s.build.listForm s.cl.rmode).map .ok ++ more →
    ∃ t, Sys2Proof.core.run (d.encLen s.build.listForm s.cl.rmode) s = .next t ∧
      t.dst = d.stored [s.cur.p] s.dst ∧
      t.fsm = (if s.cur.p + 1 < s.rp.length then .rxParam else .rxEnd) ∧
      t.cur.p = s.cur.p + 1 ∧ t.cur.stack = [] ∧ t.cur.i = 0 ∧
      t.env = { s.env with xchgIn := more } ∧
      t.log = s.log ++ (d.bytes s.build.listForm s.cl.rmode).map (fun b => .xchg s.build.rxFill (.ok b)) ∧
      t = { s with fsm := t.fsm, cur := t.cur, dst := t.dst, env := t.env, log := t.log }

/-- 44_transaction.md R190, R192: a whole EXECUTE whose calls succeed and whose reply is well formed, from the CMDW write to its completion with OK: the request frame is sent (`rs` is what the peer answers meanwhile), the reply is taken from START on, every
receive destination holds the reply's value, Select is released, and LOG holds the request phase's events and then the reply phase's. For a build without WAIT_NOT_READY, and a peer that is ready at
each acquire's first sample. -/
def Obligations.ExecuteCompletes : Prop :=
  ∀ (s : State) (rb : BitVec 1) (cmd : BitVec 7) (rm sm : Mode) (vals : List SendDesc) (req rs reply : List Byte)
    (moreX : List XchgDraw) (moreR : List ReadyDraw) (moreW : List WriteDraw),
    s.hostq = [.writeReg .cmdw (cmdwWord rb cmd 0 rm sm 0x2)] → s.fsm ≠ .halted → s.status.busy = false →
    s.spWritten = true → s.rpWritten = true → s.build.wv.waitNotReady = false → 0 < s.build.scanCeiling →
    (∀ d ∈ s.sp, d.valid s.build.listForm sm = true) → (∀ r ∈ s.rp, r.valid = true) → s.rp.length ≤ 255 →
    List.Forall₂ (fun (d : SendDesc) r => d.valid s.build.listForm rm = true ∧ d.fitsIn r = true) vals s.rp →
    req = State.requestBytes { s with cl := ⟨0x2, sm, rm, cmd⟩ } → rs.length = req.length →
    reply = [START, cmd.zeroExtend 8 ||| REPLY_FLAG] ++
      (if s.build.wv.countByte then [BitVec.ofNat 8 s.rp.length] else []) ++
      vals.flatMap (SendDesc.bytes s.build.listForm rm) ++ [END] →
    s.env.readyIn = .ok true :: .ok true :: moreR → s.env.writeIn = .ok :: .ok :: .ok :: .ok :: moreW →
    s.env.xchgIn = rs.map .ok ++ reply.map .ok ++ moreX →
    ∃ t, Sys2Proof.core.run (1 + (3 + req.length) + (3 + reply.length)) s = .next t ∧
      t.fsm = .done ∧ t.status = { s.status with busy := false, done := true, code := .ok, errByte := 0 } ∧
      t.selectN = true ∧ t.resetN = s.resetN ∧ t.sp = s.sp ∧ t.rp = s.rp ∧ t.dst = storedParams 0 [] vals ∧ t.dstUnspec = false ∧
      t.env.xchgIn = moreX ∧ t.env.readyIn = moreR ∧ t.env.writeIn = moreW ∧ t.hostq = [] ∧ t.hostLog = s.hostLog ∧
      t.log = s.log ++ [.issue (cmdwWord rb cmd 0 rm sm 0x2), .ready (.ok true), .write .selectN false none] ++
        req.zipWith (fun b r => .xchg b (.ok r)) rs ++
        [.write .selectN true none, .ready (.ok true), .write .selectN false none] ++
        reply.map (fun b => .xchg s.build.rxFill (.ok b)) ++ [.write .selectN true none, .complete t.status.toWord]

/-! ### Invariants and whole-machine rules -/

/-- Every step keeps the invariant: the flags of each state, BUSY and DONE never both, ERRBYTE 0 but for codes 4 and 8 (10_state.md R43, R50), SCNT within its ceiling (R39), TXN the bytes sent modulo 4 (R40), the cursor within its
descriptor (R49), an EXECUTE only with SP and RP written (44_transaction.md R199, H1), unspecified destinations listed nowhere (R48), the destinations in their canonical form. -/
def Obligations.StepKeepsInv : Prop :=
  ∀ s t : State, s.Inv → step s = .next t → t.Inv

/-- 10_state.md R35: from a state of the invariant (StepKeepsInv) every step keeps Select released outside the critical section and granted inside it, as long as no write to it failed and no fault occurred. -/
def Obligations.StepKeepsSelect : Prop :=
  ∀ s t : State, s.Inv → s.SelectOk → step s = .next t → t.SelectOk

/-- 44_transaction.md R200: no byte is exchanged while SELECT_N = 1, unless a Select write failed. -/
def Obligations.NoExchangeWhileReleased : Prop :=
  ∀ (s t : State) (added : List Event), s.SelectOk → s.log.all (fun e => !e.selectFailed) = true →
    step s = .next t → t.log = s.log ++ added → added.any Event.isXchg = true → s.selectN = false

/-- 43_param_decode.md R177 to R179, 60_exceptions.md R216: no step writes a receive destination beyond its capacity. -/
def Obligations.StepKeepsCapacity : Prop :=
  ∀ s t : State, s.Inv → s.WithinCapacity → step s = .next t → t.WithinCapacity

/-- 10_state.md R45: LOG is append-only. 00_scope.md R7: no step changes the build. 20_memory.md R63: a step of the block never writes SP or the RP descriptors. -/
def Obligations.WhatNoStepChanges : Prop :=
  (∀ s t : State, step s = .next t → s.log <+: t.log ∧ t.build = s.build) ∧
  (∀ s t : State, blockStep s = .next t → t.sp = s.sp ∧ t.rp = s.rp ∧ t.hostq = s.hostq ∧ t.hostLog = s.hostLog)

/-- 10_state.md R49: in a state of the invariant that is not HALTED, a step that the host leaves to the block (nothing pending, WAIT or a pause) answers a next state, again of the invariant: the block never
stops, and no instruction is met out of its position. -/
def Obligations.BlockNeverStops : Prop :=
  ∀ (s : State) (rest : List HostAct), s.Inv → s.fsm ≠ .halted →
    (s.hostq = [] ∨ s.hostq = .wait :: rest ∨ s.hostq = .pause :: rest) →
    ∃ t, step s = .next t ∧ t.Inv

/-- 44_transaction.md R201: the end of a run is final: with no further CMDW write pending, whatever else the host still does, no step leaves it, logs anything or changes STATUS or a line, and with no host action
left the step is the same state. A HALTED state with nothing left for the host is the model's fault (log entry 12). -/
def Obligations.EndOfRunFinal : Prop :=
  (∀ s : State, s.endOfRun = true →
    (s.hostq = [] → step s = .next s) ∧
    ∀ t, step s = .next t →
      t.endOfRun = true ∧ t.fsm = s.fsm ∧ t.log = s.log ∧ t.status = s.status ∧ t.selectN = s.selectN ∧ t.resetN = s.resetN) ∧
  ∀ s : State, s.fsm = .halted → s.endOfRun = false ∧ (s.hostq = [] → step s = .fault .terminatorHalt)
end

