-- ==== Sys2Proof/Laws/Memory.lean ====
section
/-! SUPPORT. The laws of the receive buffers and of the destinations: reading after writing, and the canonical form. -/

namespace Sys2Proof.Machine

/-! ### Buffers -/

@[simp] theorem Memory.read_nil (i : Nat) : Memory.read [] i = none := rfl

theorem Memory.read_write_same (m : Memory) (i : Nat) (v : Byte) : (m.write i v).read i = some v := by
  induction m with
  | nil => simp [Memory.write, Memory.read]
  | cons c rest ih =>
    obtain ⟨a, b⟩ := c
    unfold Memory.write
    split_ifs with h1 h2
    · simp [Memory.read]
    · simp [Memory.read]
    · have : ¬ a = i := fun h => h2 h.symm
      simp [Memory.read, this, ih]

theorem Memory.read_write_other (m : Memory) {i j : Nat} (v : Byte) (h : j ≠ i) :
    (m.write i v).read j = m.read j := by
  induction m with
  | nil => simp [Memory.write, Memory.read, h.symm]
  | cons c rest ih =>
    obtain ⟨a, b⟩ := c
    unfold Memory.write
    split_ifs with h1 h2
    · simp [Memory.read, h.symm]
    · subst h2; simp [Memory.read, h.symm]
    · simp [Memory.read, ih]

/-- What a write can list: its own index, and what was listed before. -/
theorem Memory.mem_write {m : Memory} {i : Nat} {v : Byte} {c : Host.Cell} (h : c ∈ m.write i v) :
    c = (i, v) ∨ c ∈ m := by
  induction m with
  | nil => simpa [Memory.write] using h
  | cons x rest ih =>
    obtain ⟨a, b⟩ := x
    unfold Memory.write at h
    split_ifs at h with h1 h2
    · simpa using h
    · rcases List.mem_cons.1 h with h | h
      · exact .inl h
      · exact .inr (List.mem_cons_of_mem _ h)
    · rcases List.mem_cons.1 h with h | h
      · exact .inr (h ▸ List.mem_cons_self)
      · exact (ih h).imp id (List.mem_cons_of_mem _)

theorem Memory.write_wf {m : Memory} (h : m.wf) (i : Nat) (v : Byte) : (m.write i v).wf := by
  induction m with
  | nil => simp [Memory.write, Memory.wf]
  | cons c rest ih =>
    obtain ⟨a, b⟩ := c
    have hr := List.pairwise_cons.1 h
    unfold Memory.write
    split_ifs with h1 h2
    · refine List.pairwise_cons.2 ⟨fun x hx => ?_, h⟩
      rcases List.mem_cons.1 hx with rfl | hx
      · exact h1
      · exact lt_trans h1 (hr.1 x hx)
    · subst h2; exact List.pairwise_cons.2 ⟨hr.1, hr.2⟩
    · refine List.pairwise_cons.2 ⟨fun x hx => ?_, ih hr.2⟩
      rcases Memory.mem_write hx with rfl | hx
      · show a < i
        omega
      · exact hr.1 x hx

/-! ### Destinations -/

@[simp] theorem Dests.get_nil (p : Slot) : Dests.get [] p = none := rfl

theorem Dests.get_set_same (d : Dests) (p : Slot) (l : Leaf) : (d.set p l).get p = some l := by
  induction d with
  | nil => simp [Dests.set, Dests.get]
  | cons c rest ih =>
    obtain ⟨q, x⟩ := c
    unfold Dests.set
    split_ifs with h1 h2
    · simp [Dests.get]
    · simp [Dests.get]
    · have : ¬ q = p := fun h => h2 h.symm
      simp [Dests.get, this, ih]

theorem Dests.get_set_other (d : Dests) {p q : Slot} (l : Leaf) (h : q ≠ p) : (d.set p l).get q = d.get q := by
  induction d with
  | nil => simp [Dests.set, Dests.get, h.symm]
  | cons c rest ih =>
    obtain ⟨a, x⟩ := c
    unfold Dests.set
    split_ifs with h1 h2
    · simp [Dests.get, h.symm]
    · subst h2; simp [Dests.get, h.symm]
    · simp [Dests.get, ih]

/-- Only the last write to a slot counts. -/
theorem Dests.set_set (d : Dests) (p : Slot) (l l' : Leaf) : (d.set p l).set p l' = d.set p l' := by
  induction d with
  | nil => simp [Dests.set]
  | cons c rest ih =>
    obtain ⟨q, x⟩ := c
    by_cases h1 : p < q
    · simp [Dests.set, h1]
    · by_cases h2 : p = q
      · subst h2; simp [Dests.set]
      · simp [Dests.set, h1, h2, ih]

/-- What a write can list: its own slot, and what was listed before. -/
theorem Dests.mem_set {d : Dests} {p : Slot} {l : Leaf} {x : Slot × Leaf} (h : x ∈ d.set p l) :
    x = (p, l) ∨ x ∈ d := by
  induction d with
  | nil => simpa [Dests.set] using h
  | cons c rest ih =>
    obtain ⟨q, y⟩ := c
    unfold Dests.set at h
    split_ifs at h with h1 h2
    · simpa using h
    · rcases List.mem_cons.1 h with h | h
      · exact .inl h
      · exact .inr (List.mem_cons_of_mem _ h)
    · rcases List.mem_cons.1 h with h | h
      · exact .inr (h ▸ List.mem_cons_self)
      · exact (ih h).imp id (List.mem_cons_of_mem _)

theorem Dests.mem_of_get {d : Dests} {p : Slot} {l : Leaf} (h : d.get p = some l) : (p, l) ∈ d := by
  induction d with
  | nil => simp at h
  | cons c rest ih =>
    obtain ⟨q, x⟩ := c
    unfold Dests.get at h
    split_ifs at h with h1
    · cases h; subst h1; exact List.mem_cons_self
    · exact List.mem_cons_of_mem _ (ih h)

theorem Dests.set_rising {d : Dests} (h : d.Pairwise (fun a b => a.1 < b.1)) (p : Slot) (l : Leaf) :
    (d.set p l).Pairwise (fun a b => a.1 < b.1) := by
  induction d with
  | nil => simp [Dests.set]
  | cons c rest ih =>
    obtain ⟨q, x⟩ := c
    have hr := List.pairwise_cons.1 h
    unfold Dests.set
    split_ifs with h1 h2
    · refine List.pairwise_cons.2 ⟨fun y hy => ?_, h⟩
      rcases List.mem_cons.1 hy with rfl | hy
      · exact h1
      · exact lt_trans h1 (hr.1 y hy)
    · subst h2; exact List.pairwise_cons.2 ⟨hr.1, hr.2⟩
    · refine List.pairwise_cons.2 ⟨fun y hy => ?_, ih hr.2⟩
      rcases Dests.mem_set hy with rfl | hy
      · exact lt_of_le_of_ne (not_lt.1 h1) (fun e => h2 e.symm)
      · exact hr.1 y hy

theorem Dests.set_wf {d : Dests} (h : d.wf) (p : Slot) {l : Leaf} (hl : l.wf = true) : (d.set p l).wf :=
  ⟨Dests.set_rising h.1 p l, fun x hx => by
    rcases Dests.mem_set hx with rfl | hx
    · exact hl
    · exact h.2 x hx⟩

theorem Dests.buffer_wf {d : Dests} (h : d.wf) (p : Slot) : (d.buffer p).wf := by
  unfold Dests.buffer
  split
  · rename_i buf r hg
    have := h.2 _ (Dests.mem_of_get hg)
    simpa [Leaf.wf] using this
  · exact List.Pairwise.nil

theorem Dests.memWrite_wf {d : Dests} (h : d.wf) (p : Slot) (i : Nat) (b : Byte) : (d.memWrite p i b).wf :=
  Dests.set_wf h p (by simpa [Leaf.wf] using Memory.write_wf (Dests.buffer_wf h p) i b)

theorem Dests.setRlen_wf {d : Dests} (h : d.wf) (p : Slot) (l : Nat) : (d.setRlen p l).wf :=
  Dests.set_wf h p (by simpa [Leaf.wf] using Dests.buffer_wf h p)

theorem Dests.nil_wf : Dests.wf [] := ⟨List.Pairwise.nil, by simp⟩

theorem State.reset_dst_wf : State.reset.dst.wf := Dests.nil_wf

end Sys2Proof.Machine
end

