-- ==== Sys2Proof/Laws/State.lean ====
section
/-! SUPPORT. One lemma per field per named update of the state. -/

namespace Sys2Proof.Machine

/-! ### `State.event` -/

@[simp] theorem State.event_build (s : State) (e : Event) :
    (s.event e).build = s.build := rfl
@[simp] theorem State.event_selectN (s : State) (e : Event) :
    (s.event e).selectN = s.selectN := rfl
@[simp] theorem State.event_resetN (s : State) (e : Event) :
    (s.event e).resetN = s.resetN := rfl
@[simp] theorem State.event_fsm (s : State) (e : Event) :
    (s.event e).fsm = s.fsm := rfl
@[simp] theorem State.event_cl (s : State) (e : Event) :
    (s.event e).cl = s.cl := rfl
@[simp] theorem State.event_ph (s : State) (e : Event) :
    (s.event e).ph = s.ph := rfl
@[simp] theorem State.event_scnt (s : State) (e : Event) :
    (s.event e).scnt = s.scnt := rfl
@[simp] theorem State.event_txn (s : State) (e : Event) :
    (s.event e).txn = s.txn := rfl
@[simp] theorem State.event_txIdx (s : State) (e : Event) :
    (s.event e).txIdx = s.txIdx := rfl
@[simp] theorem State.event_cur (s : State) (e : Event) :
    (s.event e).cur = s.cur := rfl
@[simp] theorem State.event_status (s : State) (e : Event) :
    (s.event e).status = s.status := rfl
@[simp] theorem State.event_terr (s : State) (e : Event) :
    (s.event e).terr = s.terr := rfl
@[simp] theorem State.event_log (s : State) (e : Event) :
    (s.event e).log = s.log ++ [e] := rfl
@[simp] theorem State.event_sp (s : State) (e : Event) :
    (s.event e).sp = s.sp := rfl
@[simp] theorem State.event_rp (s : State) (e : Event) :
    (s.event e).rp = s.rp := rfl
@[simp] theorem State.event_dst (s : State) (e : Event) :
    (s.event e).dst = s.dst := rfl
@[simp] theorem State.event_dstUnspec (s : State) (e : Event) :
    (s.event e).dstUnspec = s.dstUnspec := rfl
@[simp] theorem State.event_spWritten (s : State) (e : Event) :
    (s.event e).spWritten = s.spWritten := rfl
@[simp] theorem State.event_rpWritten (s : State) (e : Event) :
    (s.event e).rpWritten = s.rpWritten := rfl
@[simp] theorem State.event_err (s : State) (e : Event) :
    (s.event e).err = s.err := rfl
@[simp] theorem State.event_env (s : State) (e : Event) :
    (s.event e).env = s.env := rfl
@[simp] theorem State.event_hostq (s : State) (e : Event) :
    (s.event e).hostq = s.hostq := rfl
@[simp] theorem State.event_hostLog (s : State) (e : Event) :
    (s.event e).hostLog = s.hostLog := rfl

/-! ### `State.exchanged` -/

@[simp] theorem State.exchanged_build (s : State) (tx : Byte) (d : Config.XchgDraw) :
    (s.exchanged tx d).build = s.build := rfl
@[simp] theorem State.exchanged_selectN (s : State) (tx : Byte) (d : Config.XchgDraw) :
    (s.exchanged tx d).selectN = s.selectN := rfl
@[simp] theorem State.exchanged_resetN (s : State) (tx : Byte) (d : Config.XchgDraw) :
    (s.exchanged tx d).resetN = s.resetN := rfl
@[simp] theorem State.exchanged_fsm (s : State) (tx : Byte) (d : Config.XchgDraw) :
    (s.exchanged tx d).fsm = s.fsm := rfl
@[simp] theorem State.exchanged_cl (s : State) (tx : Byte) (d : Config.XchgDraw) :
    (s.exchanged tx d).cl = s.cl := rfl
@[simp] theorem State.exchanged_ph (s : State) (tx : Byte) (d : Config.XchgDraw) :
    (s.exchanged tx d).ph = s.ph := rfl
@[simp] theorem State.exchanged_scnt (s : State) (tx : Byte) (d : Config.XchgDraw) :
    (s.exchanged tx d).scnt = s.scnt := rfl
@[simp] theorem State.exchanged_txn (s : State) (tx : Byte) (d : Config.XchgDraw) :
    (s.exchanged tx d).txn = s.txn := rfl
@[simp] theorem State.exchanged_txIdx (s : State) (tx : Byte) (d : Config.XchgDraw) :
    (s.exchanged tx d).txIdx = s.txIdx := rfl
@[simp] theorem State.exchanged_cur (s : State) (tx : Byte) (d : Config.XchgDraw) :
    (s.exchanged tx d).cur = s.cur := rfl
@[simp] theorem State.exchanged_status (s : State) (tx : Byte) (d : Config.XchgDraw) :
    (s.exchanged tx d).status = s.status := rfl
@[simp] theorem State.exchanged_terr (s : State) (tx : Byte) (d : Config.XchgDraw) :
    (s.exchanged tx d).terr = s.terr := rfl
@[simp] theorem State.exchanged_log (s : State) (tx : Byte) (d : Config.XchgDraw) :
    (s.exchanged tx d).log = s.log ++ [.xchg tx d] := rfl
@[simp] theorem State.exchanged_sp (s : State) (tx : Byte) (d : Config.XchgDraw) :
    (s.exchanged tx d).sp = s.sp := rfl
@[simp] theorem State.exchanged_rp (s : State) (tx : Byte) (d : Config.XchgDraw) :
    (s.exchanged tx d).rp = s.rp := rfl
@[simp] theorem State.exchanged_dst (s : State) (tx : Byte) (d : Config.XchgDraw) :
    (s.exchanged tx d).dst = s.dst := rfl
@[simp] theorem State.exchanged_dstUnspec (s : State) (tx : Byte) (d : Config.XchgDraw) :
    (s.exchanged tx d).dstUnspec = s.dstUnspec := rfl
@[simp] theorem State.exchanged_spWritten (s : State) (tx : Byte) (d : Config.XchgDraw) :
    (s.exchanged tx d).spWritten = s.spWritten := rfl
@[simp] theorem State.exchanged_rpWritten (s : State) (tx : Byte) (d : Config.XchgDraw) :
    (s.exchanged tx d).rpWritten = s.rpWritten := rfl
@[simp] theorem State.exchanged_err (s : State) (tx : Byte) (d : Config.XchgDraw) :
    (s.exchanged tx d).err = s.err := rfl
@[simp] theorem State.exchanged_env (s : State) (tx : Byte) (d : Config.XchgDraw) :
    (s.exchanged tx d).env = s.env.dropXchg := rfl
@[simp] theorem State.exchanged_hostq (s : State) (tx : Byte) (d : Config.XchgDraw) :
    (s.exchanged tx d).hostq = s.hostq := rfl
@[simp] theorem State.exchanged_hostLog (s : State) (tx : Byte) (d : Config.XchgDraw) :
    (s.exchanged tx d).hostLog = s.hostLog := rfl

/-! ### `State.sampled` -/

@[simp] theorem State.sampled_build (s : State) (d : Config.ReadyDraw) :
    (s.sampled d).build = s.build := rfl
@[simp] theorem State.sampled_selectN (s : State) (d : Config.ReadyDraw) :
    (s.sampled d).selectN = s.selectN := rfl
@[simp] theorem State.sampled_resetN (s : State) (d : Config.ReadyDraw) :
    (s.sampled d).resetN = s.resetN := rfl
@[simp] theorem State.sampled_fsm (s : State) (d : Config.ReadyDraw) :
    (s.sampled d).fsm = s.fsm := rfl
@[simp] theorem State.sampled_cl (s : State) (d : Config.ReadyDraw) :
    (s.sampled d).cl = s.cl := rfl
@[simp] theorem State.sampled_ph (s : State) (d : Config.ReadyDraw) :
    (s.sampled d).ph = s.ph := rfl
@[simp] theorem State.sampled_scnt (s : State) (d : Config.ReadyDraw) :
    (s.sampled d).scnt = s.scnt := rfl
@[simp] theorem State.sampled_txn (s : State) (d : Config.ReadyDraw) :
    (s.sampled d).txn = s.txn := rfl
@[simp] theorem State.sampled_txIdx (s : State) (d : Config.ReadyDraw) :
    (s.sampled d).txIdx = s.txIdx := rfl
@[simp] theorem State.sampled_cur (s : State) (d : Config.ReadyDraw) :
    (s.sampled d).cur = s.cur := rfl
@[simp] theorem State.sampled_status (s : State) (d : Config.ReadyDraw) :
    (s.sampled d).status = s.status := rfl
@[simp] theorem State.sampled_terr (s : State) (d : Config.ReadyDraw) :
    (s.sampled d).terr = s.terr := rfl
@[simp] theorem State.sampled_log (s : State) (d : Config.ReadyDraw) :
    (s.sampled d).log = s.log ++ [.ready d] := rfl
@[simp] theorem State.sampled_sp (s : State) (d : Config.ReadyDraw) :
    (s.sampled d).sp = s.sp := rfl
@[simp] theorem State.sampled_rp (s : State) (d : Config.ReadyDraw) :
    (s.sampled d).rp = s.rp := rfl
@[simp] theorem State.sampled_dst (s : State) (d : Config.ReadyDraw) :
    (s.sampled d).dst = s.dst := rfl
@[simp] theorem State.sampled_dstUnspec (s : State) (d : Config.ReadyDraw) :
    (s.sampled d).dstUnspec = s.dstUnspec := rfl
@[simp] theorem State.sampled_spWritten (s : State) (d : Config.ReadyDraw) :
    (s.sampled d).spWritten = s.spWritten := rfl
@[simp] theorem State.sampled_rpWritten (s : State) (d : Config.ReadyDraw) :
    (s.sampled d).rpWritten = s.rpWritten := rfl
@[simp] theorem State.sampled_err (s : State) (d : Config.ReadyDraw) :
    (s.sampled d).err = s.err := rfl
@[simp] theorem State.sampled_env (s : State) (d : Config.ReadyDraw) :
    (s.sampled d).env = s.env.dropReady := rfl
@[simp] theorem State.sampled_hostq (s : State) (d : Config.ReadyDraw) :
    (s.sampled d).hostq = s.hostq := rfl
@[simp] theorem State.sampled_hostLog (s : State) (d : Config.ReadyDraw) :
    (s.sampled d).hostLog = s.hostLog := rfl

/-! ### `State.wrote` -/

@[simp] theorem State.wrote_build (s : State) (l : Line) (v : Bool) (d : Config.WriteDraw) :
    (s.wrote l v d).build = s.build := by cases l <;> rfl
@[simp] theorem State.wrote_selectN (s : State) (l : Line) (v : Bool) (d : Config.WriteDraw) :
    (s.wrote l v d).selectN = (if l = .selectN then writeLevel v d else s.selectN) := by cases l <;> rfl
@[simp] theorem State.wrote_resetN (s : State) (l : Line) (v : Bool) (d : Config.WriteDraw) :
    (s.wrote l v d).resetN = (if l = .resetN then writeLevel v d else s.resetN) := by cases l <;> rfl
@[simp] theorem State.wrote_fsm (s : State) (l : Line) (v : Bool) (d : Config.WriteDraw) :
    (s.wrote l v d).fsm = s.fsm := by cases l <;> rfl
@[simp] theorem State.wrote_cl (s : State) (l : Line) (v : Bool) (d : Config.WriteDraw) :
    (s.wrote l v d).cl = s.cl := by cases l <;> rfl
@[simp] theorem State.wrote_ph (s : State) (l : Line) (v : Bool) (d : Config.WriteDraw) :
    (s.wrote l v d).ph = s.ph := by cases l <;> rfl
@[simp] theorem State.wrote_scnt (s : State) (l : Line) (v : Bool) (d : Config.WriteDraw) :
    (s.wrote l v d).scnt = s.scnt := by cases l <;> rfl
@[simp] theorem State.wrote_txn (s : State) (l : Line) (v : Bool) (d : Config.WriteDraw) :
    (s.wrote l v d).txn = s.txn := by cases l <;> rfl
@[simp] theorem State.wrote_txIdx (s : State) (l : Line) (v : Bool) (d : Config.WriteDraw) :
    (s.wrote l v d).txIdx = s.txIdx := by cases l <;> rfl
@[simp] theorem State.wrote_cur (s : State) (l : Line) (v : Bool) (d : Config.WriteDraw) :
    (s.wrote l v d).cur = s.cur := by cases l <;> rfl
@[simp] theorem State.wrote_status (s : State) (l : Line) (v : Bool) (d : Config.WriteDraw) :
    (s.wrote l v d).status = s.status := by cases l <;> rfl
@[simp] theorem State.wrote_terr (s : State) (l : Line) (v : Bool) (d : Config.WriteDraw) :
    (s.wrote l v d).terr = s.terr := by cases l <;> rfl
@[simp] theorem State.wrote_log (s : State) (l : Line) (v : Bool) (d : Config.WriteDraw) :
    (s.wrote l v d).log = s.log ++ [.write l v (writeFailure d)] := by cases l <;> rfl
@[simp] theorem State.wrote_sp (s : State) (l : Line) (v : Bool) (d : Config.WriteDraw) :
    (s.wrote l v d).sp = s.sp := by cases l <;> rfl
@[simp] theorem State.wrote_rp (s : State) (l : Line) (v : Bool) (d : Config.WriteDraw) :
    (s.wrote l v d).rp = s.rp := by cases l <;> rfl
@[simp] theorem State.wrote_dst (s : State) (l : Line) (v : Bool) (d : Config.WriteDraw) :
    (s.wrote l v d).dst = s.dst := by cases l <;> rfl
@[simp] theorem State.wrote_dstUnspec (s : State) (l : Line) (v : Bool) (d : Config.WriteDraw) :
    (s.wrote l v d).dstUnspec = s.dstUnspec := by cases l <;> rfl
@[simp] theorem State.wrote_spWritten (s : State) (l : Line) (v : Bool) (d : Config.WriteDraw) :
    (s.wrote l v d).spWritten = s.spWritten := by cases l <;> rfl
@[simp] theorem State.wrote_rpWritten (s : State) (l : Line) (v : Bool) (d : Config.WriteDraw) :
    (s.wrote l v d).rpWritten = s.rpWritten := by cases l <;> rfl
@[simp] theorem State.wrote_err (s : State) (l : Line) (v : Bool) (d : Config.WriteDraw) :
    (s.wrote l v d).err = s.err := by cases l <;> rfl
@[simp] theorem State.wrote_env (s : State) (l : Line) (v : Bool) (d : Config.WriteDraw) :
    (s.wrote l v d).env = s.env.dropWrite := by cases l <;> rfl
@[simp] theorem State.wrote_hostq (s : State) (l : Line) (v : Bool) (d : Config.WriteDraw) :
    (s.wrote l v d).hostq = s.hostq := by cases l <;> rfl
@[simp] theorem State.wrote_hostLog (s : State) (l : Line) (v : Bool) (d : Config.WriteDraw) :
    (s.wrote l v d).hostLog = s.hostLog := by cases l <;> rfl

/-! ### `State.delayed` -/

@[simp] theorem State.delayed_build (s : State) (ms : Nat) :
    (s.delayed ms).build = s.build := rfl
@[simp] theorem State.delayed_selectN (s : State) (ms : Nat) :
    (s.delayed ms).selectN = s.selectN := rfl
@[simp] theorem State.delayed_resetN (s : State) (ms : Nat) :
    (s.delayed ms).resetN = s.resetN := rfl
@[simp] theorem State.delayed_fsm (s : State) (ms : Nat) :
    (s.delayed ms).fsm = s.fsm := rfl
@[simp] theorem State.delayed_cl (s : State) (ms : Nat) :
    (s.delayed ms).cl = s.cl := rfl
@[simp] theorem State.delayed_ph (s : State) (ms : Nat) :
    (s.delayed ms).ph = s.ph := rfl
@[simp] theorem State.delayed_scnt (s : State) (ms : Nat) :
    (s.delayed ms).scnt = s.scnt := rfl
@[simp] theorem State.delayed_txn (s : State) (ms : Nat) :
    (s.delayed ms).txn = s.txn := rfl
@[simp] theorem State.delayed_txIdx (s : State) (ms : Nat) :
    (s.delayed ms).txIdx = s.txIdx := rfl
@[simp] theorem State.delayed_cur (s : State) (ms : Nat) :
    (s.delayed ms).cur = s.cur := rfl
@[simp] theorem State.delayed_status (s : State) (ms : Nat) :
    (s.delayed ms).status = s.status := rfl
@[simp] theorem State.delayed_terr (s : State) (ms : Nat) :
    (s.delayed ms).terr = s.terr := rfl
@[simp] theorem State.delayed_log (s : State) (ms : Nat) :
    (s.delayed ms).log = s.log ++ [.delay ms] := rfl
@[simp] theorem State.delayed_sp (s : State) (ms : Nat) :
    (s.delayed ms).sp = s.sp := rfl
@[simp] theorem State.delayed_rp (s : State) (ms : Nat) :
    (s.delayed ms).rp = s.rp := rfl
@[simp] theorem State.delayed_dst (s : State) (ms : Nat) :
    (s.delayed ms).dst = s.dst := rfl
@[simp] theorem State.delayed_dstUnspec (s : State) (ms : Nat) :
    (s.delayed ms).dstUnspec = s.dstUnspec := rfl
@[simp] theorem State.delayed_spWritten (s : State) (ms : Nat) :
    (s.delayed ms).spWritten = s.spWritten := rfl
@[simp] theorem State.delayed_rpWritten (s : State) (ms : Nat) :
    (s.delayed ms).rpWritten = s.rpWritten := rfl
@[simp] theorem State.delayed_err (s : State) (ms : Nat) :
    (s.delayed ms).err = s.err := rfl
@[simp] theorem State.delayed_env (s : State) (ms : Nat) :
    (s.delayed ms).env = s.env := rfl
@[simp] theorem State.delayed_hostq (s : State) (ms : Nat) :
    (s.delayed ms).hostq = s.hostq := rfl
@[simp] theorem State.delayed_hostLog (s : State) (ms : Nat) :
    (s.delayed ms).hostLog = s.hostLog := rfl

/-! ### `State.goto` -/

@[simp] theorem State.goto_build (s : State) (f : Fsm) :
    (s.goto f).build = s.build := rfl
@[simp] theorem State.goto_selectN (s : State) (f : Fsm) :
    (s.goto f).selectN = s.selectN := rfl
@[simp] theorem State.goto_resetN (s : State) (f : Fsm) :
    (s.goto f).resetN = s.resetN := rfl
@[simp] theorem State.goto_fsm (s : State) (f : Fsm) :
    (s.goto f).fsm = f := rfl
@[simp] theorem State.goto_cl (s : State) (f : Fsm) :
    (s.goto f).cl = s.cl := rfl
@[simp] theorem State.goto_ph (s : State) (f : Fsm) :
    (s.goto f).ph = s.ph := rfl
@[simp] theorem State.goto_scnt (s : State) (f : Fsm) :
    (s.goto f).scnt = s.scnt := rfl
@[simp] theorem State.goto_txn (s : State) (f : Fsm) :
    (s.goto f).txn = s.txn := rfl
@[simp] theorem State.goto_txIdx (s : State) (f : Fsm) :
    (s.goto f).txIdx = s.txIdx := rfl
@[simp] theorem State.goto_cur (s : State) (f : Fsm) :
    (s.goto f).cur = s.cur := rfl
@[simp] theorem State.goto_status (s : State) (f : Fsm) :
    (s.goto f).status = s.status := rfl
@[simp] theorem State.goto_terr (s : State) (f : Fsm) :
    (s.goto f).terr = s.terr := rfl
@[simp] theorem State.goto_log (s : State) (f : Fsm) :
    (s.goto f).log = s.log := rfl
@[simp] theorem State.goto_sp (s : State) (f : Fsm) :
    (s.goto f).sp = s.sp := rfl
@[simp] theorem State.goto_rp (s : State) (f : Fsm) :
    (s.goto f).rp = s.rp := rfl
@[simp] theorem State.goto_dst (s : State) (f : Fsm) :
    (s.goto f).dst = s.dst := rfl
@[simp] theorem State.goto_dstUnspec (s : State) (f : Fsm) :
    (s.goto f).dstUnspec = s.dstUnspec := rfl
@[simp] theorem State.goto_spWritten (s : State) (f : Fsm) :
    (s.goto f).spWritten = s.spWritten := rfl
@[simp] theorem State.goto_rpWritten (s : State) (f : Fsm) :
    (s.goto f).rpWritten = s.rpWritten := rfl
@[simp] theorem State.goto_err (s : State) (f : Fsm) :
    (s.goto f).err = s.err := rfl
@[simp] theorem State.goto_env (s : State) (f : Fsm) :
    (s.goto f).env = s.env := rfl
@[simp] theorem State.goto_hostq (s : State) (f : Fsm) :
    (s.goto f).hostq = s.hostq := rfl
@[simp] theorem State.goto_hostLog (s : State) (f : Fsm) :
    (s.goto f).hostLog = s.hostLog := rfl

/-! ### `State.failPhase` -/

@[simp] theorem State.failPhase_build (s : State) (f : Failure) :
    (s.failPhase f).build = s.build := rfl
@[simp] theorem State.failPhase_selectN (s : State) (f : Failure) :
    (s.failPhase f).selectN = s.selectN := rfl
@[simp] theorem State.failPhase_resetN (s : State) (f : Failure) :
    (s.failPhase f).resetN = s.resetN := rfl
@[simp] theorem State.failPhase_fsm (s : State) (f : Failure) :
    (s.failPhase f).fsm = .rel := rfl
@[simp] theorem State.failPhase_cl (s : State) (f : Failure) :
    (s.failPhase f).cl = s.cl := rfl
@[simp] theorem State.failPhase_ph (s : State) (f : Failure) :
    (s.failPhase f).ph = s.ph := rfl
@[simp] theorem State.failPhase_scnt (s : State) (f : Failure) :
    (s.failPhase f).scnt = s.scnt := rfl
@[simp] theorem State.failPhase_txn (s : State) (f : Failure) :
    (s.failPhase f).txn = s.txn := rfl
@[simp] theorem State.failPhase_txIdx (s : State) (f : Failure) :
    (s.failPhase f).txIdx = s.txIdx := rfl
@[simp] theorem State.failPhase_cur (s : State) (f : Failure) :
    (s.failPhase f).cur = s.cur := rfl
@[simp] theorem State.failPhase_status (s : State) (f : Failure) :
    (s.failPhase f).status = s.status := rfl
@[simp] theorem State.failPhase_terr (s : State) (f : Failure) :
    (s.failPhase f).terr = s.terr := rfl
@[simp] theorem State.failPhase_log (s : State) (f : Failure) :
    (s.failPhase f).log = s.log := rfl
@[simp] theorem State.failPhase_sp (s : State) (f : Failure) :
    (s.failPhase f).sp = s.sp := rfl
@[simp] theorem State.failPhase_rp (s : State) (f : Failure) :
    (s.failPhase f).rp = s.rp := rfl
@[simp] theorem State.failPhase_dst (s : State) (f : Failure) :
    (s.failPhase f).dst = s.dst := rfl
@[simp] theorem State.failPhase_dstUnspec (s : State) (f : Failure) :
    (s.failPhase f).dstUnspec = s.dstUnspec := rfl
@[simp] theorem State.failPhase_spWritten (s : State) (f : Failure) :
    (s.failPhase f).spWritten = s.spWritten := rfl
@[simp] theorem State.failPhase_rpWritten (s : State) (f : Failure) :
    (s.failPhase f).rpWritten = s.rpWritten := rfl
@[simp] theorem State.failPhase_err (s : State) (f : Failure) :
    (s.failPhase f).err = some f := rfl
@[simp] theorem State.failPhase_env (s : State) (f : Failure) :
    (s.failPhase f).env = s.env := rfl
@[simp] theorem State.failPhase_hostq (s : State) (f : Failure) :
    (s.failPhase f).hostq = s.hostq := rfl
@[simp] theorem State.failPhase_hostLog (s : State) (f : Failure) :
    (s.failPhase f).hostLog = s.hostLog := rfl

/-! ### `State.complete` -/

@[simp] theorem State.complete_build (s : State) (c : ErrCode) (b : Byte) :
    (s.complete c b).build = s.build := rfl
@[simp] theorem State.complete_selectN (s : State) (c : ErrCode) (b : Byte) :
    (s.complete c b).selectN = s.selectN := rfl
@[simp] theorem State.complete_resetN (s : State) (c : ErrCode) (b : Byte) :
    (s.complete c b).resetN = s.resetN := rfl
@[simp] theorem State.complete_fsm (s : State) (c : ErrCode) (b : Byte) :
    (s.complete c b).fsm = .done := rfl
@[simp] theorem State.complete_cl (s : State) (c : ErrCode) (b : Byte) :
    (s.complete c b).cl = s.cl := rfl
@[simp] theorem State.complete_ph (s : State) (c : ErrCode) (b : Byte) :
    (s.complete c b).ph = s.ph := rfl
@[simp] theorem State.complete_scnt (s : State) (c : ErrCode) (b : Byte) :
    (s.complete c b).scnt = s.scnt := rfl
@[simp] theorem State.complete_txn (s : State) (c : ErrCode) (b : Byte) :
    (s.complete c b).txn = s.txn := rfl
@[simp] theorem State.complete_txIdx (s : State) (c : ErrCode) (b : Byte) :
    (s.complete c b).txIdx = s.txIdx := rfl
@[simp] theorem State.complete_cur (s : State) (c : ErrCode) (b : Byte) :
    (s.complete c b).cur = s.cur := rfl
@[simp] theorem State.complete_status (s : State) (c : ErrCode) (b : Byte) :
    (s.complete c b).status = s.status.completed c b := rfl
@[simp] theorem State.complete_terr (s : State) (c : ErrCode) (b : Byte) :
    (s.complete c b).terr = terrAfter c s.env s.terr := rfl
@[simp] theorem State.complete_log (s : State) (c : ErrCode) (b : Byte) :
    (s.complete c b).log = s.log ++ [.complete (s.status.completed c b).toWord] := rfl
@[simp] theorem State.complete_sp (s : State) (c : ErrCode) (b : Byte) :
    (s.complete c b).sp = s.sp := rfl
@[simp] theorem State.complete_rp (s : State) (c : ErrCode) (b : Byte) :
    (s.complete c b).rp = s.rp := rfl
@[simp] theorem State.complete_dst (s : State) (c : ErrCode) (b : Byte) :
    (s.complete c b).dst = destsAfter c s.cl.op s.dst := rfl
@[simp] theorem State.complete_dstUnspec (s : State) (c : ErrCode) (b : Byte) :
    (s.complete c b).dstUnspec = unspecAfter c s.cl.op s.dstUnspec := rfl
@[simp] theorem State.complete_spWritten (s : State) (c : ErrCode) (b : Byte) :
    (s.complete c b).spWritten = s.spWritten := rfl
@[simp] theorem State.complete_rpWritten (s : State) (c : ErrCode) (b : Byte) :
    (s.complete c b).rpWritten = s.rpWritten := rfl
@[simp] theorem State.complete_err (s : State) (c : ErrCode) (b : Byte) :
    (s.complete c b).err = none := rfl
@[simp] theorem State.complete_env (s : State) (c : ErrCode) (b : Byte) :
    (s.complete c b).env = envAfter c s.env := rfl
@[simp] theorem State.complete_hostq (s : State) (c : ErrCode) (b : Byte) :
    (s.complete c b).hostq = s.hostq := rfl
@[simp] theorem State.complete_hostLog (s : State) (c : ErrCode) (b : Byte) :
    (s.complete c b).hostLog = s.hostLog := rfl

/-! ### `State.takeFault` -/

@[simp] theorem State.takeFault_build (s : State) (t : Byte) :
    (s.takeFault t).build = s.build := rfl
@[simp] theorem State.takeFault_selectN (s : State) (t : Byte) :
    (s.takeFault t).selectN = s.env.level := rfl
@[simp] theorem State.takeFault_resetN (s : State) (t : Byte) :
    (s.takeFault t).resetN = s.resetN := rfl
@[simp] theorem State.takeFault_fsm (s : State) (t : Byte) :
    (s.takeFault t).fsm = .halted := rfl
@[simp] theorem State.takeFault_cl (s : State) (t : Byte) :
    (s.takeFault t).cl = s.cl := rfl
@[simp] theorem State.takeFault_ph (s : State) (t : Byte) :
    (s.takeFault t).ph = s.ph := rfl
@[simp] theorem State.takeFault_scnt (s : State) (t : Byte) :
    (s.takeFault t).scnt = s.scnt := rfl
@[simp] theorem State.takeFault_txn (s : State) (t : Byte) :
    (s.takeFault t).txn = s.txn := rfl
@[simp] theorem State.takeFault_txIdx (s : State) (t : Byte) :
    (s.takeFault t).txIdx = s.txIdx := rfl
@[simp] theorem State.takeFault_cur (s : State) (t : Byte) :
    (s.takeFault t).cur = s.cur := rfl
@[simp] theorem State.takeFault_status (s : State) (t : Byte) :
    (s.takeFault t).status = s.status.faulted t := rfl
@[simp] theorem State.takeFault_terr (s : State) (t : Byte) :
    (s.takeFault t).terr = terrAfter .terminator s.env.dropLevel s.terr := rfl
@[simp] theorem State.takeFault_log (s : State) (t : Byte) :
    (s.takeFault t).log = s.log ++ [.complete (s.status.faulted t).toWord] := rfl
@[simp] theorem State.takeFault_sp (s : State) (t : Byte) :
    (s.takeFault t).sp = s.sp := rfl
@[simp] theorem State.takeFault_rp (s : State) (t : Byte) :
    (s.takeFault t).rp = s.rp := rfl
@[simp] theorem State.takeFault_dst (s : State) (t : Byte) :
    (s.takeFault t).dst = [] := rfl
@[simp] theorem State.takeFault_dstUnspec (s : State) (t : Byte) :
    (s.takeFault t).dstUnspec = true := rfl
@[simp] theorem State.takeFault_spWritten (s : State) (t : Byte) :
    (s.takeFault t).spWritten = s.spWritten := rfl
@[simp] theorem State.takeFault_rpWritten (s : State) (t : Byte) :
    (s.takeFault t).rpWritten = s.rpWritten := rfl
@[simp] theorem State.takeFault_err (s : State) (t : Byte) :
    (s.takeFault t).err = s.err := rfl
@[simp] theorem State.takeFault_env (s : State) (t : Byte) :
    (s.takeFault t).env = envAfter .terminator s.env.dropLevel := rfl
@[simp] theorem State.takeFault_hostq (s : State) (t : Byte) :
    (s.takeFault t).hostq = s.hostq := rfl
@[simp] theorem State.takeFault_hostLog (s : State) (t : Byte) :
    (s.takeFault t).hostLog = s.hostLog := rfl

/-! ### `State.startAcquire` -/

@[simp] theorem State.startAcquire_build (s : State) :
    (s.startAcquire).build = s.build := rfl
@[simp] theorem State.startAcquire_selectN (s : State) :
    (s.startAcquire).selectN = s.selectN := rfl
@[simp] theorem State.startAcquire_resetN (s : State) :
    (s.startAcquire).resetN = s.resetN := rfl
@[simp] theorem State.startAcquire_fsm (s : State) :
    (s.startAcquire).fsm = (if s.build.wv.waitNotReady then .acqNr else .acqR) := rfl
@[simp] theorem State.startAcquire_cl (s : State) :
    (s.startAcquire).cl = s.cl := rfl
@[simp] theorem State.startAcquire_ph (s : State) :
    (s.startAcquire).ph = s.ph := rfl
@[simp] theorem State.startAcquire_scnt (s : State) :
    (s.startAcquire).scnt = s.scnt := rfl
@[simp] theorem State.startAcquire_txn (s : State) :
    (s.startAcquire).txn = s.txn := rfl
@[simp] theorem State.startAcquire_txIdx (s : State) :
    (s.startAcquire).txIdx = s.txIdx := rfl
@[simp] theorem State.startAcquire_cur (s : State) :
    (s.startAcquire).cur = s.cur := rfl
@[simp] theorem State.startAcquire_status (s : State) :
    (s.startAcquire).status = s.status := rfl
@[simp] theorem State.startAcquire_terr (s : State) :
    (s.startAcquire).terr = s.terr := rfl
@[simp] theorem State.startAcquire_log (s : State) :
    (s.startAcquire).log = s.log := rfl
@[simp] theorem State.startAcquire_sp (s : State) :
    (s.startAcquire).sp = s.sp := rfl
@[simp] theorem State.startAcquire_rp (s : State) :
    (s.startAcquire).rp = s.rp := rfl
@[simp] theorem State.startAcquire_dst (s : State) :
    (s.startAcquire).dst = s.dst := rfl
@[simp] theorem State.startAcquire_dstUnspec (s : State) :
    (s.startAcquire).dstUnspec = s.dstUnspec := rfl
@[simp] theorem State.startAcquire_spWritten (s : State) :
    (s.startAcquire).spWritten = s.spWritten := rfl
@[simp] theorem State.startAcquire_rpWritten (s : State) :
    (s.startAcquire).rpWritten = s.rpWritten := rfl
@[simp] theorem State.startAcquire_err (s : State) :
    (s.startAcquire).err = none := rfl
@[simp] theorem State.startAcquire_env (s : State) :
    (s.startAcquire).env = s.env := rfl
@[simp] theorem State.startAcquire_hostq (s : State) :
    (s.startAcquire).hostq = s.hostq := rfl
@[simp] theorem State.startAcquire_hostLog (s : State) :
    (s.startAcquire).hostLog = s.hostLog := rfl

/-! ### `State.latched` -/

@[simp] theorem State.latched_build (s : State) (w : Word16) (c : CmdLatch) :
    (s.latched w c).build = s.build := rfl
@[simp] theorem State.latched_selectN (s : State) (w : Word16) (c : CmdLatch) :
    (s.latched w c).selectN = s.selectN := rfl
@[simp] theorem State.latched_resetN (s : State) (w : Word16) (c : CmdLatch) :
    (s.latched w c).resetN = s.resetN := rfl
@[simp] theorem State.latched_fsm (s : State) (w : Word16) (c : CmdLatch) :
    (s.latched w c).fsm = s.fsm := rfl
@[simp] theorem State.latched_cl (s : State) (w : Word16) (c : CmdLatch) :
    (s.latched w c).cl = c := rfl
@[simp] theorem State.latched_ph (s : State) (w : Word16) (c : CmdLatch) :
    (s.latched w c).ph = s.ph := rfl
@[simp] theorem State.latched_scnt (s : State) (w : Word16) (c : CmdLatch) :
    (s.latched w c).scnt = s.scnt := rfl
@[simp] theorem State.latched_txn (s : State) (w : Word16) (c : CmdLatch) :
    (s.latched w c).txn = s.txn := rfl
@[simp] theorem State.latched_txIdx (s : State) (w : Word16) (c : CmdLatch) :
    (s.latched w c).txIdx = s.txIdx := rfl
@[simp] theorem State.latched_cur (s : State) (w : Word16) (c : CmdLatch) :
    (s.latched w c).cur = s.cur := rfl
@[simp] theorem State.latched_status (s : State) (w : Word16) (c : CmdLatch) :
    (s.latched w c).status = s.status.issued := rfl
@[simp] theorem State.latched_terr (s : State) (w : Word16) (c : CmdLatch) :
    (s.latched w c).terr = s.terr := rfl
@[simp] theorem State.latched_log (s : State) (w : Word16) (c : CmdLatch) :
    (s.latched w c).log = s.log ++ [.issue w] := rfl
@[simp] theorem State.latched_sp (s : State) (w : Word16) (c : CmdLatch) :
    (s.latched w c).sp = s.sp := rfl
@[simp] theorem State.latched_rp (s : State) (w : Word16) (c : CmdLatch) :
    (s.latched w c).rp = s.rp := rfl
@[simp] theorem State.latched_dst (s : State) (w : Word16) (c : CmdLatch) :
    (s.latched w c).dst = s.dst := rfl
@[simp] theorem State.latched_dstUnspec (s : State) (w : Word16) (c : CmdLatch) :
    (s.latched w c).dstUnspec = s.dstUnspec := rfl
@[simp] theorem State.latched_spWritten (s : State) (w : Word16) (c : CmdLatch) :
    (s.latched w c).spWritten = s.spWritten := rfl
@[simp] theorem State.latched_rpWritten (s : State) (w : Word16) (c : CmdLatch) :
    (s.latched w c).rpWritten = s.rpWritten := rfl
@[simp] theorem State.latched_err (s : State) (w : Word16) (c : CmdLatch) :
    (s.latched w c).err = s.err := rfl
@[simp] theorem State.latched_env (s : State) (w : Word16) (c : CmdLatch) :
    (s.latched w c).env = s.env := rfl
@[simp] theorem State.latched_hostq (s : State) (w : Word16) (c : CmdLatch) :
    (s.latched w c).hostq = s.hostq := rfl
@[simp] theorem State.latched_hostLog (s : State) (w : Word16) (c : CmdLatch) :
    (s.latched w c).hostLog = s.hostLog := rfl

/-! ### `State.toStage` -/

@[simp] theorem State.toStage_build (s : State) (st : Stage) :
    (s.toStage st).build = s.build := rfl
@[simp] theorem State.toStage_selectN (s : State) (st : Stage) :
    (s.toStage st).selectN = s.selectN := rfl
@[simp] theorem State.toStage_resetN (s : State) (st : Stage) :
    (s.toStage st).resetN = s.resetN := rfl
@[simp] theorem State.toStage_fsm (s : State) (st : Stage) :
    (s.toStage st).fsm = s.fsm := rfl
@[simp] theorem State.toStage_cl (s : State) (st : Stage) :
    (s.toStage st).cl = s.cl := rfl
@[simp] theorem State.toStage_ph (s : State) (st : Stage) :
    (s.toStage st).ph = s.ph := rfl
@[simp] theorem State.toStage_scnt (s : State) (st : Stage) :
    (s.toStage st).scnt = s.scnt := rfl
@[simp] theorem State.toStage_txn (s : State) (st : Stage) :
    (s.toStage st).txn = s.txn := rfl
@[simp] theorem State.toStage_txIdx (s : State) (st : Stage) :
    (s.toStage st).txIdx = s.txIdx := rfl
@[simp] theorem State.toStage_cur (s : State) (st : Stage) :
    (s.toStage st).cur = { s.cur with stage := st, i := 0, held := [] } := rfl
@[simp] theorem State.toStage_status (s : State) (st : Stage) :
    (s.toStage st).status = s.status := rfl
@[simp] theorem State.toStage_terr (s : State) (st : Stage) :
    (s.toStage st).terr = s.terr := rfl
@[simp] theorem State.toStage_log (s : State) (st : Stage) :
    (s.toStage st).log = s.log := rfl
@[simp] theorem State.toStage_sp (s : State) (st : Stage) :
    (s.toStage st).sp = s.sp := rfl
@[simp] theorem State.toStage_rp (s : State) (st : Stage) :
    (s.toStage st).rp = s.rp := rfl
@[simp] theorem State.toStage_dst (s : State) (st : Stage) :
    (s.toStage st).dst = s.dst := rfl
@[simp] theorem State.toStage_dstUnspec (s : State) (st : Stage) :
    (s.toStage st).dstUnspec = s.dstUnspec := rfl
@[simp] theorem State.toStage_spWritten (s : State) (st : Stage) :
    (s.toStage st).spWritten = s.spWritten := rfl
@[simp] theorem State.toStage_rpWritten (s : State) (st : Stage) :
    (s.toStage st).rpWritten = s.rpWritten := rfl
@[simp] theorem State.toStage_err (s : State) (st : Stage) :
    (s.toStage st).err = s.err := rfl
@[simp] theorem State.toStage_env (s : State) (st : Stage) :
    (s.toStage st).env = s.env := rfl
@[simp] theorem State.toStage_hostq (s : State) (st : Stage) :
    (s.toStage st).hostq = s.hostq := rfl
@[simp] theorem State.toStage_hostLog (s : State) (st : Stage) :
    (s.toStage st).hostLog = s.hostLog := rfl

/-! ### `State.consumed` -/

@[simp] theorem State.consumed_build (s : State) :
    (s.consumed).build = s.build := rfl
@[simp] theorem State.consumed_selectN (s : State) :
    (s.consumed).selectN = s.selectN := rfl
@[simp] theorem State.consumed_resetN (s : State) :
    (s.consumed).resetN = s.resetN := rfl
@[simp] theorem State.consumed_fsm (s : State) :
    (s.consumed).fsm = s.fsm := rfl
@[simp] theorem State.consumed_cl (s : State) :
    (s.consumed).cl = s.cl := rfl
@[simp] theorem State.consumed_ph (s : State) :
    (s.consumed).ph = s.ph := rfl
@[simp] theorem State.consumed_scnt (s : State) :
    (s.consumed).scnt = s.scnt := rfl
@[simp] theorem State.consumed_txn (s : State) :
    (s.consumed).txn = s.txn := rfl
@[simp] theorem State.consumed_txIdx (s : State) :
    (s.consumed).txIdx = s.txIdx := rfl
@[simp] theorem State.consumed_cur (s : State) :
    (s.consumed).cur = { s.cur with stack := s.cur.stack.map (fun f => { f with consumed := f.consumed + 1 }) } := rfl
@[simp] theorem State.consumed_status (s : State) :
    (s.consumed).status = s.status := rfl
@[simp] theorem State.consumed_terr (s : State) :
    (s.consumed).terr = s.terr := rfl
@[simp] theorem State.consumed_log (s : State) :
    (s.consumed).log = s.log := rfl
@[simp] theorem State.consumed_sp (s : State) :
    (s.consumed).sp = s.sp := rfl
@[simp] theorem State.consumed_rp (s : State) :
    (s.consumed).rp = s.rp := rfl
@[simp] theorem State.consumed_dst (s : State) :
    (s.consumed).dst = s.dst := rfl
@[simp] theorem State.consumed_dstUnspec (s : State) :
    (s.consumed).dstUnspec = s.dstUnspec := rfl
@[simp] theorem State.consumed_spWritten (s : State) :
    (s.consumed).spWritten = s.spWritten := rfl
@[simp] theorem State.consumed_rpWritten (s : State) :
    (s.consumed).rpWritten = s.rpWritten := rfl
@[simp] theorem State.consumed_err (s : State) :
    (s.consumed).err = s.err := rfl
@[simp] theorem State.consumed_env (s : State) :
    (s.consumed).env = s.env := rfl
@[simp] theorem State.consumed_hostq (s : State) :
    (s.consumed).hostq = s.hostq := rfl
@[simp] theorem State.consumed_hostLog (s : State) :
    (s.consumed).hostLog = s.hostLog := rfl

/-! ### `State.hostRead` -/

@[simp] theorem State.hostRead_build (s : State) (r : HostRead) :
    (s.hostRead r).build = s.build := rfl
@[simp] theorem State.hostRead_selectN (s : State) (r : HostRead) :
    (s.hostRead r).selectN = s.selectN := rfl
@[simp] theorem State.hostRead_resetN (s : State) (r : HostRead) :
    (s.hostRead r).resetN = s.resetN := rfl
@[simp] theorem State.hostRead_fsm (s : State) (r : HostRead) :
    (s.hostRead r).fsm = s.fsm := rfl
@[simp] theorem State.hostRead_cl (s : State) (r : HostRead) :
    (s.hostRead r).cl = s.cl := rfl
@[simp] theorem State.hostRead_ph (s : State) (r : HostRead) :
    (s.hostRead r).ph = s.ph := rfl
@[simp] theorem State.hostRead_scnt (s : State) (r : HostRead) :
    (s.hostRead r).scnt = s.scnt := rfl
@[simp] theorem State.hostRead_txn (s : State) (r : HostRead) :
    (s.hostRead r).txn = s.txn := rfl
@[simp] theorem State.hostRead_txIdx (s : State) (r : HostRead) :
    (s.hostRead r).txIdx = s.txIdx := rfl
@[simp] theorem State.hostRead_cur (s : State) (r : HostRead) :
    (s.hostRead r).cur = s.cur := rfl
@[simp] theorem State.hostRead_status (s : State) (r : HostRead) :
    (s.hostRead r).status = s.status := rfl
@[simp] theorem State.hostRead_terr (s : State) (r : HostRead) :
    (s.hostRead r).terr = s.terr := rfl
@[simp] theorem State.hostRead_log (s : State) (r : HostRead) :
    (s.hostRead r).log = s.log := rfl
@[simp] theorem State.hostRead_sp (s : State) (r : HostRead) :
    (s.hostRead r).sp = s.sp := rfl
@[simp] theorem State.hostRead_rp (s : State) (r : HostRead) :
    (s.hostRead r).rp = s.rp := rfl
@[simp] theorem State.hostRead_dst (s : State) (r : HostRead) :
    (s.hostRead r).dst = s.dst := rfl
@[simp] theorem State.hostRead_dstUnspec (s : State) (r : HostRead) :
    (s.hostRead r).dstUnspec = s.dstUnspec := rfl
@[simp] theorem State.hostRead_spWritten (s : State) (r : HostRead) :
    (s.hostRead r).spWritten = s.spWritten := rfl
@[simp] theorem State.hostRead_rpWritten (s : State) (r : HostRead) :
    (s.hostRead r).rpWritten = s.rpWritten := rfl
@[simp] theorem State.hostRead_err (s : State) (r : HostRead) :
    (s.hostRead r).err = s.err := rfl
@[simp] theorem State.hostRead_env (s : State) (r : HostRead) :
    (s.hostRead r).env = s.env := rfl
@[simp] theorem State.hostRead_hostq (s : State) (r : HostRead) :
    (s.hostRead r).hostq = s.hostq := rfl
@[simp] theorem State.hostRead_hostLog (s : State) (r : HostRead) :
    (s.hostRead r).hostLog = s.hostLog ++ [r] := rfl

/-! ### `State.scanFound` -/

@[simp] theorem State.scanFound_build (s : State) :
    (s.scanFound).build = s.build := rfl
@[simp] theorem State.scanFound_selectN (s : State) :
    (s.scanFound).selectN = s.selectN := rfl
@[simp] theorem State.scanFound_resetN (s : State) :
    (s.scanFound).resetN = s.resetN := rfl
@[simp] theorem State.scanFound_fsm (s : State) :
    (s.scanFound).fsm = .rxCmd := rfl
@[simp] theorem State.scanFound_cl (s : State) :
    (s.scanFound).cl = s.cl := rfl
@[simp] theorem State.scanFound_ph (s : State) :
    (s.scanFound).ph = s.ph := rfl
@[simp] theorem State.scanFound_scnt (s : State) :
    (s.scanFound).scnt = s.scnt + 1 := rfl
@[simp] theorem State.scanFound_txn (s : State) :
    (s.scanFound).txn = s.txn := rfl
@[simp] theorem State.scanFound_txIdx (s : State) :
    (s.scanFound).txIdx = s.txIdx := rfl
@[simp] theorem State.scanFound_cur (s : State) :
    (s.scanFound).cur = s.cur := rfl
@[simp] theorem State.scanFound_status (s : State) :
    (s.scanFound).status = s.status := rfl
@[simp] theorem State.scanFound_terr (s : State) :
    (s.scanFound).terr = s.terr := rfl
@[simp] theorem State.scanFound_log (s : State) :
    (s.scanFound).log = s.log := rfl
@[simp] theorem State.scanFound_sp (s : State) :
    (s.scanFound).sp = s.sp := rfl
@[simp] theorem State.scanFound_rp (s : State) :
    (s.scanFound).rp = s.rp := rfl
@[simp] theorem State.scanFound_dst (s : State) :
    (s.scanFound).dst = s.dst := rfl
@[simp] theorem State.scanFound_dstUnspec (s : State) :
    (s.scanFound).dstUnspec = s.dstUnspec := rfl
@[simp] theorem State.scanFound_spWritten (s : State) :
    (s.scanFound).spWritten = s.spWritten := rfl
@[simp] theorem State.scanFound_rpWritten (s : State) :
    (s.scanFound).rpWritten = s.rpWritten := rfl
@[simp] theorem State.scanFound_err (s : State) :
    (s.scanFound).err = s.err := rfl
@[simp] theorem State.scanFound_env (s : State) :
    (s.scanFound).env = s.env := rfl
@[simp] theorem State.scanFound_hostq (s : State) :
    (s.scanFound).hostq = s.hostq := rfl
@[simp] theorem State.scanFound_hostLog (s : State) :
    (s.scanFound).hostLog = s.hostLog := rfl

/-! ### `State.scanErr` -/

@[simp] theorem State.scanErr_build (s : State) :
    (s.scanErr).build = s.build := rfl
@[simp] theorem State.scanErr_selectN (s : State) :
    (s.scanErr).selectN = s.selectN := rfl
@[simp] theorem State.scanErr_resetN (s : State) :
    (s.scanErr).resetN = s.resetN := rfl
@[simp] theorem State.scanErr_fsm (s : State) :
    (s.scanErr).fsm = .rel := rfl
@[simp] theorem State.scanErr_cl (s : State) :
    (s.scanErr).cl = s.cl := rfl
@[simp] theorem State.scanErr_ph (s : State) :
    (s.scanErr).ph = s.ph := rfl
@[simp] theorem State.scanErr_scnt (s : State) :
    (s.scanErr).scnt = s.scnt + 1 := rfl
@[simp] theorem State.scanErr_txn (s : State) :
    (s.scanErr).txn = s.txn := rfl
@[simp] theorem State.scanErr_txIdx (s : State) :
    (s.scanErr).txIdx = s.txIdx := rfl
@[simp] theorem State.scanErr_cur (s : State) :
    (s.scanErr).cur = s.cur := rfl
@[simp] theorem State.scanErr_status (s : State) :
    (s.scanErr).status = s.status := rfl
@[simp] theorem State.scanErr_terr (s : State) :
    (s.scanErr).terr = s.terr := rfl
@[simp] theorem State.scanErr_log (s : State) :
    (s.scanErr).log = s.log := rfl
@[simp] theorem State.scanErr_sp (s : State) :
    (s.scanErr).sp = s.sp := rfl
@[simp] theorem State.scanErr_rp (s : State) :
    (s.scanErr).rp = s.rp := rfl
@[simp] theorem State.scanErr_dst (s : State) :
    (s.scanErr).dst = s.dst := rfl
@[simp] theorem State.scanErr_dstUnspec (s : State) :
    (s.scanErr).dstUnspec = s.dstUnspec := rfl
@[simp] theorem State.scanErr_spWritten (s : State) :
    (s.scanErr).spWritten = s.spWritten := rfl
@[simp] theorem State.scanErr_rpWritten (s : State) :
    (s.scanErr).rpWritten = s.rpWritten := rfl
@[simp] theorem State.scanErr_err (s : State) :
    (s.scanErr).err = some .errorResponse := rfl
@[simp] theorem State.scanErr_env (s : State) :
    (s.scanErr).env = s.env := rfl
@[simp] theorem State.scanErr_hostq (s : State) :
    (s.scanErr).hostq = s.hostq := rfl
@[simp] theorem State.scanErr_hostLog (s : State) :
    (s.scanErr).hostLog = s.hostLog := rfl

end Sys2Proof.Machine
end

