-- ==== Sys2Proof/Laws/Ops.lean ====
section
/-! SUPPORT. One lemma per shared operation, which says everything it can do: the draws, one byte sent, one byte
received, the cursor's advance and the receive rules with their frames, Issue, completion and the exceptions. -/

set_option Elab.async false

namespace Sys2Proof.Machine

open Sys2Proof.Config

/-! ### Draws -/

theorem Env.xchg_cons {e : Env} {d : XchgDraw} {ds : List XchgDraw} (h : e.xchgIn = d :: ds) :
    e.xchg = d ∧ e.dropXchg = { e with xchgIn := ds } := by
  simp [Env.xchg, Env.dropXchg, h]

theorem Env.ready_cons {e : Env} {d : ReadyDraw} {ds : List ReadyDraw} (h : e.readyIn = d :: ds) :
    e.ready = d ∧ e.dropReady = { e with readyIn := ds } := by
  simp [Env.ready, Env.dropReady, h]

theorem Env.write_cons {e : Env} {d : WriteDraw} {ds : List WriteDraw} (h : e.writeIn = d :: ds) :
    e.write = d ∧ e.dropWrite = { e with writeIn := ds } := by
  simp [Env.write, Env.dropWrite, h]

/-! ### Destinations -/

theorem Dests.buffer_set_same (d : Dests) (p : Slot) (buf : Memory) (r : Option Nat) :
    (d.set p (.bytes buf r)).buffer p = buf := by
  simp [Dests.buffer, Dests.get_set_same]

theorem Dests.get_memWrite_same (d : Dests) (p : Slot) (i : Nat) (b : Byte) :
    (d.memWrite p i b).get p = some (.bytes ((d.buffer p).write i b) none) :=
  Dests.get_set_same _ _ _

theorem Dests.get_memWrite_other (d : Dests) {p q : Slot} (i : Nat) (b : Byte) (h : q ≠ p) :
    (d.memWrite p i b).get q = d.get q :=
  Dests.get_set_other _ _ h

theorem Dests.buffer_memWrite (d : Dests) (p : Slot) (i : Nat) (b : Byte) :
    (d.memWrite p i b).buffer p = (d.buffer p).write i b :=
  Dests.buffer_set_same _ _ _ _

theorem Dests.get_setRlen_same (d : Dests) (p : Slot) (l : Nat) :
    (d.setRlen p l).get p = some (.bytes (d.buffer p) (some l)) :=
  Dests.get_set_same _ _ _

theorem Dests.get_setRlen_other (d : Dests) {p q : Slot} (l : Nat) (h : q ≠ p) :
    (d.setRlen p l).get q = d.get q :=
  Dests.get_set_other _ _ h

/-! ### The request -/

theorem named_bytes (i : Instr) (bs : List Byte) : (named i bs).map Prod.snd = bs := by
  simp [named]

@[simp] theorem named_length (i : Instr) (bs : List Byte) : (named i bs).length = bs.length := List.length_map _

@[simp] theorem lenBytes_length (m : Mode) (l : Nat) : (lenBytes m l).length = lenWidth m := by
  cases m <;> rfl

/-- The request does not depend on where the block is in it. -/
theorem State.requestUnits_congr {s t : State} (hb : t.build = s.build) (hc : t.cl = s.cl) (hs : t.sp = s.sp) :
    t.requestUnits = s.requestUnits := by
  simp [State.requestUnits, State.cmdReq, State.nsByte, hb, hc, hs]

/-- The next byte depends on the request, the byte index and TXN. -/
theorem State.nextUnit_congr {s t : State} (hb : t.build = s.build) (hc : t.cl = s.cl) (hs : t.sp = s.sp)
    (hi : t.txIdx = s.txIdx) (hn : t.txn = s.txn) : t.nextUnit = s.nextUnit := by
  simp [State.nextUnit, State.requestUnits_congr hb hc hs, hb, hi, hn]

/-- A byte is left exactly when the frame, or the pad, is not complete. -/
theorem State.nextUnit_isSome (s : State) :
    s.nextUnit.isSome = true ↔ s.txIdx < s.requestUnits.length ∨ (s.build.wv.pad4 = true ∧ s.txn ≠ 0) := by
  unfold State.nextUnit
  by_cases h : s.txIdx < s.requestUnits.length
  · simp [h]
  · rw [List.getElem?_eq_none (by omega)]
    by_cases h2 : s.build.wv.pad4 = true ∧ s.txn ≠ 0
    · rw [if_pos h2]
      exact ⟨fun _ => .inr h2, fun _ => rfl⟩
    · simp [h]

/-- One byte sent: the exchange, TXN and the index, and Release after the last byte. -/
theorem State.sendByte_ok {s : State} {r : Byte} (b : Byte) (h : s.env.xchg = .ok r) :
    s.sendByte b = { s with
      txn := s.txn + 1
      txIdx := s.txIdx + 1
      env := s.env.dropXchg
      fsm := if s.txIdx + 1 < s.requestUnits.length ∨ (s.build.wv.pad4 = true ∧ s.txn + 1 ≠ 0) then s.fsm else .rel
      log := s.log ++ [.xchg b (.ok r)] } := by
  have key := State.nextUnit_isSome { s.exchanged b (.ok r) with txn := s.txn + 1, txIdx := s.txIdx + 1 }
  rw [show State.requestUnits { s.exchanged b (.ok r) with txn := s.txn + 1, txIdx := s.txIdx + 1 } = s.requestUnits
    from State.requestUnits_congr rfl rfl rfl] at key
  unfold State.sendByte
  rw [h]
  by_cases hc : s.txIdx + 1 < s.requestUnits.length ∨ (s.build.wv.pad4 = true ∧ s.txn + 1 ≠ 0)
  · rw [if_pos hc]
    simp only [key.2 hc, if_true]
    rfl
  · rw [if_neg hc]
    have hn : ¬ (State.nextUnit { s.exchanged b (.ok r) with txn := s.txn + 1, txIdx := s.txIdx + 1 }).isSome = true :=
      fun x => hc (key.1 x)
    simp only [hn]
    rfl

/-- A failed exchange: TRANSPORT, and Release comes next. -/
theorem State.sendByte_fail {s : State} {e : IoErr} (b : Byte) (h : s.env.xchg = .fail e) :
    s.sendByte b = { s with
      err := some (.transport e)
      fsm := .rel
      env := s.env.dropXchg
      log := s.log ++ [.xchg b (.fail e)] } := by
  simp only [State.sendByte, h]
  rfl

/-- An operation of the request runs exactly where the next byte is its own. -/
theorem sendAs_next {i : Instr} {mn : String} {s t : State} :
    sendAs i mn s = .next t ↔ s.fsm = .tx ∧ ∃ b, s.nextUnit = some (i, b) ∧ t = s.sendByte b := by
  unfold sendAs
  by_cases hf : s.fsm = .tx
  · cases hn : s.nextUnit with
    | none => simp [hf]
    | some u =>
      obtain ⟨j, b⟩ := u
      by_cases hj : j = i
      · subst hj; simp [hf, eq_comm]
      · simp [hf, hj]
  · simp [hf]

/-- A one-byte wire unit in the request phase. -/
theorem wireUnit_tx {b : Byte} {mn : String} {s : State} {i : Instr} (hf : s.fsm = .tx) (hn : s.nextUnit = some (i, b)) :
    wireUnit b mn s = .next (s.sendByte b) := by
  simp [wireUnit, hf, hn]

/-- A one-byte wire unit elsewhere. -/
theorem wireUnit_rx {b : Byte} {mn : String} {s : State} (hf : s.fsm ≠ .tx) : wireUnit b mn s = receive b mn s := by
  simp [wireUnit, hf]

/-! ### The decode cursor -/

theorem slotOf_length (p : Nat) (stack : List Frame) : (slotOf p stack).length = stack.length + 1 := by
  simp [slotOf]

theorem slotOf_cons (p : Nat) (f : Frame) (rest : List Frame) : slotOf p (f :: rest) = slotOf p rest ++ [f.j] := by
  simp [slotOf]

theorem slotOf_congr (p : Nat) {a b : List Frame} (h : a.map Frame.j = b.map Frame.j) : slotOf p a = slotOf p b := by
  simp only [slotOf, List.map_reverse, h]

/-- Counting a byte moves no position of the cursor. -/
@[simp] theorem State.consumed_curDesc (s : State) : s.consumed.curDesc = s.curDesc := by
  simp [State.curDesc, State.consumed]

@[simp] theorem State.consumed_curSlot (s : State) : s.consumed.curSlot = s.curSlot := by
  unfold State.curSlot
  exact slotOf_congr _ (by simp [State.consumed, Function.comp_def])

@[simp] theorem State.exchanged_curDesc (s : State) (b : Byte) (d : XchgDraw) :
    (s.exchanged b d).curDesc = s.curDesc := rfl

@[simp] theorem State.exchanged_curSlot (s : State) (b : Byte) (d : XchgDraw) :
    (s.exchanged b d).curSlot = s.curSlot := rfl

/-- Opening a parameter or the END check moves only the cursor and the state of the sequencer. -/
theorem State.openTop_frame (s : State) (p : Nat) :
    s.openTop p = { s with fsm := (s.openTop p).fsm, cur := (s.openTop p).cur } := by
  unfold State.openTop State.openItem
  split <;> rfl

theorem State.openTop_fsm (s : State) (p : Nat) :
    (s.openTop p).fsm = if p < s.rp.length then .rxParam else .rxEnd := by
  unfold State.openTop State.openItem
  split <;> rfl

/-- The advance out of a finished item changes the sequencer's state, the cursor, `err`, and RCNT of the sub-lists that end
with it, whose slots are shorter than the item's. -/
theorem State.advance_frame (stack : List Frame) (s : State) :
    s.advance stack = { s with fsm := (s.advance stack).fsm, cur := (s.advance stack).cur, dst := (s.advance stack).dst,
                               err := (s.advance stack).err } ∧
    ∀ q : Slot, (∀ a rest, a ++ rest = stack → rest ≠ stack → q ≠ slotOf s.cur.p rest) →
      (s.advance stack).dst.get q = s.dst.get q := by
  induction stack generalizing s with
  | nil =>
    rw [State.advance]
    have h := State.openTop_frame s (s.cur.p + 1)
    refine ⟨?_, fun q _ => ?_⟩
    · rw [h]
    · rw [h]
  | cons f rest ih =>
    rw [State.advance]
    split
    · exact ⟨rfl, fun _ _ => rfl⟩
    · split
      · exact ⟨rfl, fun _ _ => rfl⟩
      · obtain ⟨h1, h2⟩ := ih { s with dst := s.dst.set (slotOf s.cur.p rest) (.count f.k) }
        refine ⟨by rw [h1], fun q hq => ?_⟩
        rw [h2 q fun a r har hne => hq (f :: a) r (by simp [har]) fun e => by
          have := congrArg List.length har
          simp [e] at this
          omega]
        exact Dests.get_set_other _ _ (hq [f] rest rfl (by simp))

/-- The advance leaves a slot that is no proper prefix of the item's. -/
theorem State.advance_other (s : State) (stack : List Frame) {q : Slot}
    (h : ¬ q <+: slotOf s.cur.p stack ∨ q = slotOf s.cur.p stack) :
    (s.advance stack).dst.get q = s.dst.get q := by
  refine (State.advance_frame stack s).2 q fun a rest har hne e => ?_
  subst har
  have hp : slotOf s.cur.p rest <+: slotOf s.cur.p (a ++ rest) := by
    simp [slotOf]
  rcases h with h | h
  · exact h (e ▸ hp)
  · have := congrArg List.length (e.symm.trans h)
    simp [slotOf_length] at this
    exact hne (by simp [this])

/-- An item that ends with a value: the value is at its slot, the slots that are no prefixes of it are unchanged, and so is all state
but the cursor, the sequencer's state and `err`. -/
theorem State.finishWith_spec (s : State) (l : Leaf) :
    (s.finishWith l).dst.get s.curSlot = some l ∧
    (∀ q : Slot, ¬ q <+: s.curSlot → (s.finishWith l).dst.get q = s.dst.get q) ∧
    s.finishWith l = { s with fsm := (s.finishWith l).fsm, cur := (s.finishWith l).cur, dst := (s.finishWith l).dst,
                              err := (s.finishWith l).err } := by
  have hf := (State.advance_frame s.cur.stack { s with dst := s.dst.set s.curSlot l }).1
  refine ⟨?_, fun q hq => ?_, ?_⟩
  · exact (State.advance_other { s with dst := s.dst.set s.curSlot l } s.cur.stack (.inr rfl)).trans
      (Dests.get_set_same _ _ _)
  · exact (State.advance_other { s with dst := s.dst.set s.curSlot l } s.cur.stack (.inl hq)).trans
      (Dests.get_set_other _ _ fun e => hq (e ▸ List.prefix_refl _))
  · show State.advance _ _ = _
    rw [hf]
    rfl

/-- An item that ends with RLEN is one that ends with its buffer and RLEN. -/
theorem State.finishRlen_eq (s : State) (l : Nat) :
    s.finishRlen l = s.finishWith (.bytes (s.dst.buffer s.curSlot) (some l)) := rfl

/-! ### Receiving -/

/-- The last byte of a prefix, in either mode. -/
theorem State.readLen_last {s : State} {b : Byte} {l : Word16} (k : State → State)
    (h : (s.cl.rmode = .short ∧ s.cur.stage = .len0 ∧ l = b.zeroExtend 16) ∨
      (s.cur.stage = .len1 ∧ l = join16 (nthByte s.cur.held 0) b)) :
    s.readLen b k = k { s with cur := { s.cur with len := l } } := by
  rcases h with ⟨h1, h2, rfl⟩ | ⟨h1, rfl⟩
  · simp [State.readLen, h1, h2]
  · simp [State.readLen, h1]

/-- The first byte of a long prefix. -/
theorem State.readLen_first {s : State} {b : Byte} (k : State → State) (hm : s.cl.rmode = .long)
    (hs : s.cur.stage = .len0) :
    s.readLen b k = { s with cur := { s.cur with stage := .len1, held := [b] } } := by
  simp [State.readLen, hm, hs]

/-- A byte read inside a parameter: counted by the enclosing sub-lists, then the receive rule's. -/
theorem readParam_ok {s : State} {b : Byte} (f : Byte → State → State) (h : s.env.xchg = .ok b) :
    readParam f s = f b (s.exchanged s.build.rxFill (.ok b)).consumed := by
  simp [readParam, h]

/-- A failed read: TRANSPORT, and Release comes next. -/
theorem readParam_fail {s : State} {e : IoErr} (f : Byte → State → State) (h : s.env.xchg = .fail e) :
    readParam f s = { s with
      err := some (.transport e)
      fsm := .rel
      env := s.env.dropXchg
      log := s.log ++ [.xchg s.build.rxFill (.fail e)] } := by
  simp only [readParam, h]
  rfl

/-- Inside a parameter a wire unit is received exactly as the current tag's rule receives it. -/
theorem receive_param {s : State} {b : Byte} {mn mn' : String} (hf : s.fsm = .rxParam)
    (hr : ∃ r, s.curDesc = some r ∧ Sys2Proof.Machine.tagReserved r.tag = false) :
    receive b mn s = paramByte b mn' (s.exchanged s.build.rxFill (.ok b)).consumed := by
  obtain ⟨r, hr, ht⟩ := hr
  simp only [receive, hf, paramByte, State.consumed_curDesc, State.exchanged_curDesc, hr]
  cases r with
  | reserved t =>
    exfalso
    have : ∀ t : BitVec 3, Sys2Proof.Machine.tagReserved (RecvDesc.reserved t).tag = true := by decide
    rw [this t] at ht
    cases ht
  | _ => rfl

/-! ### Exceptions -/

/-- `Complete`: what every completion leaves. -/
theorem State.complete_eq (s : State) (code : ErrCode) (byte : Byte) :
    s.complete code byte = { s with
      status := s.status.completed code byte
      terr := terrAfter code s.env s.terr
      env := envAfter code s.env
      dst := destsAfter code s.cl.op s.dst
      dstUnspec := unspecAfter code s.cl.op s.dstUnspec
      err := none
      fsm := .done
      log := s.log ++ [.complete (s.status.completed code byte).toWord] } := rfl

/-- `AbortExec` and `AbortReset`, for every failure at once. -/
theorem State.abort_eq (s : State) (f : Failure) :
    s.abort f = { s with
      status := s.status.completed f.code f.byte
      terr := (s.abort f).terr
      env := (s.abort f).env
      dst := destsAfter f.code s.cl.op s.dst
      dstUnspec := unspecAfter f.code s.cl.op s.dstUnspec
      err := none
      fsm := .done
      log := s.log ++ [.complete (s.status.completed f.code f.byte).toWord] } := by
  cases f <;> rfl

/-- TERR takes the value of a TRANSPORT failure. -/
theorem State.abort_transport (s : State) (e : IoErr) :
    (s.abort (.transport e)).terr = e ∧ (s.abort (.transport e)).env = s.env := ⟨rfl, rfl⟩

theorem Failure.code_ne_ok (f : Failure) : f.code ≠ .ok := by cases f <;> nofun

/-- `Issue`: ignored while HALTED or BUSY, else latched and the operation begun. -/
theorem issue_ignored {s : State} (w : Word16) (cl : CmdLatch) (go : State → State)
    (h : s.fsm = .halted ∨ s.status.busy = true) : issue w cl go s = .next s := by
  have : s.ignoresCmdw = true := by rcases h with h | h <;> simp [State.ignoresCmdw, h]
  simp [issue, this]

theorem issue_taken {s : State} (w : Word16) (cl : CmdLatch) (go : State → State)
    (h1 : s.fsm ≠ .halted) (h2 : s.status.busy = false) :
    issue w cl go s = .next (go (s.latched w cl)) := by
  have : s.ignoresCmdw = false := by simp [State.ignoresCmdw, h1, h2]
  simp [issue, this]

/-! ### The host's port -/

/-- A read of a written value: answered when DONE = 1 and CODE = OK, else H4 is broken. -/
theorem State.readWritten_some (s : State) (r : HostRead) :
    s.readWritten (some r) = if s.destsReadable then .next (s.hostRead r) else .refused (.brokenDuty .h4) := rfl

/-- A read of a value that is not written: a fault, unless a failure made it unspecified and H4 forbids the read. -/
theorem State.readWritten_none (s : State) :
    s.readWritten none = if s.dstUnspec && !s.destsReadable then .refused (.brokenDuty .h4) else .fault .unwrittenRead := rfl

theorem State.destsReadable_iff (s : State) : s.destsReadable = true ↔ s.status.done = true ∧ s.status.code = .ok := by
  simp [State.destsReadable]

/-- What breaks H1. -/
theorem State.breaksH1_iff (s : State) (w : Word16) :
    s.breaksH1 w = true ↔ w &&& 0x00CF = 0x0002 ∧ s.fsm ≠ .halted ∧ (s.spWritten = false ∨ s.rpWritten = false) := by
  simp only [State.breaksH1, Bool.and_eq_true, beq_iff_eq, bne_iff_ne, Bool.not_eq_true', Bool.and_eq_false_iff, ne_eq, and_assoc]

/-- A write of CMDW that breaks neither H1 nor H2 runs what it decodes to. -/
theorem writeReg_cmdw {s : State} {w : Word16} (h2 : s.status.busy = false)
    (h1 : w &&& 0x00CF ≠ 0x0002 ∨ s.fsm = .halted ∨ (s.spWritten = true ∧ s.rpWritten = true)) :
    writeReg .cmdw w s = exec (decodeCmdw w) s := by
  have : s.breaksH1 w = false := by
    rw [Bool.eq_false_iff, ne_eq, State.breaksH1_iff]
    rintro ⟨a, b, c⟩
    rcases h1 with h1 | h1 | ⟨h1, h1'⟩
    · exact h1 a
    · exact b h1
    · simp [h1, h1'] at c
  simp [writeReg, h2, this]

/-! ### The step -/

/-- A step with no host action is the block's. -/
theorem step_block {s : State} (h : s.hostq = []) : step s = blockStep s := by
  simp [step, stepOnce, h]

theorem step_wait {s : State} {rest : List HostAct} (h : s.hostq = .wait :: rest) (hw : s.waitOver = false) :
    step s = blockStep s := by
  simp [step, stepOnce, h, hw]

theorem step_pause {s : State} {rest : List HostAct} (h : s.hostq = .pause :: rest) :
    step s = blockStep { s with hostq := rest } := by
  simp [step, stepOnce, h]

/-! ### Runs -/

theorem run_zero (s : State) : Sys2Proof.core.run 0 s = .next s := rfl

/-- A run goes on from a step's next state. -/
theorem run_next {s t : State} (n : Nat) (h : step s = .next t) :
    Sys2Proof.core.run (n + 1) s = Sys2Proof.core.run n t := by
  have h' : Sys2Proof.core.step s = .next t := h
  simp only [Host.Core.run, h']

end Sys2Proof.Machine
end

