-- ==== Sys2Proof/Laws/PerInstr.lean ====
section
/-! SUPPORT. Facts for every instruction as written, one lemma per constructor of `Instr`. -/

namespace Sys2Proof.Laws.CodeFitsSite

/-- The code word of an instruction is of the medium and of the length of each of its sites. -/
def Statement (i : Instr) : Prop :=
  ∀ site ∈ i.sites, decode site (encode i) ≠ .error .wrongMedium ∧ decode site (encode i) ≠ .error .wrongLength

/-- The case split is made once; the lemmas below name its cases. -/
theorem all (i : Instr) : Statement i := by
  intro site h
  cases i
  case tagReserved t =>
    rcases List.mem_cons.1 h with rfl | h
    · simp [decode, encode]
    · obtain rfl := List.mem_singleton.1 h
      simp [decode, encode]
  case wireStart =>
    rcases List.mem_cons.1 h with rfl | h
    · simp [decode, encode, decodeWireByte]
    · obtain rfl := List.mem_singleton.1 h
      simp [decode, encode, decodeWireByte]
  all_goals
    obtain rfl := List.mem_singleton.1 h
    simp [decode, encode, decodeWireByte]

theorem resetPeer (rb : BitVec 1) (cmd : BitVec 7) (rmode : Mode) (smode : Mode) : Statement (.resetPeer rb cmd rmode smode) := all _

theorem execute (rb : BitVec 1) (cmd : BitVec 7) (rmode : Mode) (smode : Mode) : Statement (.execute rb cmd rmode smode) := all _

theorem illegalOp0 (rb : BitVec 1) (cmd : BitVec 7) (rsv : BitVec 2) (rmode : Mode) (smode : Mode) : Statement (.illegalOp0 rb cmd rsv rmode smode) := all _

theorem illegalOp3 (rb : BitVec 1) (cmd : BitVec 7) (rsv : BitVec 2) (rmode : Mode) (smode : Mode) : Statement (.illegalOp3 rb cmd rsv rmode smode) := all _

theorem illegalOp4 (rb : BitVec 1) (cmd : BitVec 7) (rsv : BitVec 2) (rmode : Mode) (smode : Mode) : Statement (.illegalOp4 rb cmd rsv rmode smode) := all _

theorem illegalOp5 (rb : BitVec 1) (cmd : BitVec 7) (rsv : BitVec 2) (rmode : Mode) (smode : Mode) : Statement (.illegalOp5 rb cmd rsv rmode smode) := all _

theorem illegalOp6 (rb : BitVec 1) (cmd : BitVec 7) (rsv : BitVec 2) (rmode : Mode) (smode : Mode) : Statement (.illegalOp6 rb cmd rsv rmode smode) := all _

theorem illegalOp7 (rb : BitVec 1) (cmd : BitVec 7) (rsv : BitVec 2) (rmode : Mode) (smode : Mode) : Statement (.illegalOp7 rb cmd rsv rmode smode) := all _

theorem illegalOp8 (rb : BitVec 1) (cmd : BitVec 7) (rsv : BitVec 2) (rmode : Mode) (smode : Mode) : Statement (.illegalOp8 rb cmd rsv rmode smode) := all _

theorem illegalOp9 (rb : BitVec 1) (cmd : BitVec 7) (rsv : BitVec 2) (rmode : Mode) (smode : Mode) : Statement (.illegalOp9 rb cmd rsv rmode smode) := all _

theorem illegalOpA (rb : BitVec 1) (cmd : BitVec 7) (rsv : BitVec 2) (rmode : Mode) (smode : Mode) : Statement (.illegalOpA rb cmd rsv rmode smode) := all _

theorem illegalOpB (rb : BitVec 1) (cmd : BitVec 7) (rsv : BitVec 2) (rmode : Mode) (smode : Mode) : Statement (.illegalOpB rb cmd rsv rmode smode) := all _

theorem illegalOpC (rb : BitVec 1) (cmd : BitVec 7) (rsv : BitVec 2) (rmode : Mode) (smode : Mode) : Statement (.illegalOpC rb cmd rsv rmode smode) := all _

theorem illegalOpD (rb : BitVec 1) (cmd : BitVec 7) (rsv : BitVec 2) (rmode : Mode) (smode : Mode) : Statement (.illegalOpD rb cmd rsv rmode smode) := all _

theorem illegalOpE (rb : BitVec 1) (cmd : BitVec 7) (rsv : BitVec 2) (rmode : Mode) (smode : Mode) : Statement (.illegalOpE rb cmd rsv rmode smode) := all _

theorem illegalOpF (rb : BitVec 1) (cmd : BitVec 7) (rsv : BitVec 2) (rmode : Mode) (smode : Mode) : Statement (.illegalOpF rb cmd rsv rmode smode) := all _

theorem illegalRsv6 (rb : BitVec 1) (cmd : BitVec 7) (rsv7 : BitVec 1) (rmode : Mode) (smode : Mode) (op : BitVec 4) : Statement (.illegalRsv6 rb cmd rsv7 rmode smode op) := all _

theorem illegalRsv7 (rb : BitVec 1) (cmd : BitVec 7) (rsv6 : BitVec 1) (rmode : Mode) (smode : Mode) (op : BitVec 4) : Statement (.illegalRsv7 rb cmd rsv6 rmode smode op) := all _

theorem encU8 : Statement .encU8 := all _

theorem encU16BE : Statement .encU16BE := all _

theorem encU16LE : Statement .encU16LE := all _

theorem encU32BE : Statement .encU32BE := all _

theorem encU32LE : Statement .encU32LE := all _

theorem encSpan : Statement .encSpan := all _

theorem encNullterm : Statement .encNullterm := all _

theorem encList : Statement .encList := all _

theorem decU8 : Statement .decU8 := all _

theorem decU16BE : Statement .decU16BE := all _

theorem decU16LE : Statement .decU16LE := all _

theorem decU32BE : Statement .decU32BE := all _

theorem decU32LE : Statement .decU32LE := all _

theorem decSpan : Statement .decSpan := all _

theorem decNullterm : Statement .decNullterm := all _

theorem decList : Statement .decList := all _

theorem tagReserved (t : BitVec 3) : Statement (.tagReserved t) := all _

theorem wireStart : Statement .wireStart := all _

theorem wireErr : Statement .wireErr := all _

theorem wireEnd : Statement .wireEnd := all _

theorem wireSkip (b : Byte) : Statement (.wireSkip b) := all _

theorem wireCmdReq (opc : BitVec 7) : Statement (.wireCmdReq opc) := all _

theorem wireCmdReply (opc : BitVec 7) : Statement (.wireCmdReply opc) := all _

theorem wireCount (n : Byte) : Statement (.wireCount n) := all _

theorem wireLenShort (l : Byte) : Statement (.wireLenShort l) := all _

theorem wireLenLong (l : Word16) : Statement (.wireLenLong l) := all _

theorem wireListCount (k : Byte) : Statement (.wireListCount k) := all _

theorem wireNul : Statement .wireNul := all _

theorem wirePad : Statement .wirePad := all _

end Sys2Proof.Laws.CodeFitsSite
end

