-- ==== Sys2Proof/Tests/Slice0.lean ====
section
/-! SUPPORT. The model's own tests: an ill-formed term for each check of WellFormed; the code word of every row, written out from the
spec's encoding; single steps with the results that 95_test_vectors.md gives; and, for each statement with
hypotheses, a state and operands that meet them. -/

set_option Elab.async false

namespace Sys2Proof.Tests

open Sys2Proof Sys2Proof.Machine Sys2Proof.Config

/-! ### WellFormed -/

/-- One ill-formed term for each check, and a well-formed neighbour. -/
theorem test_wellformed_refuses :
    (Instr.illegalOp0 0 0 1 .short .short).WellFormed = false ∧ (Instr.illegalOp3 0 0 1 .short .short).WellFormed = false ∧
    (Instr.illegalOp4 0 0 2 .short .short).WellFormed = false ∧ (Instr.illegalOp5 0 0 3 .short .short).WellFormed = false ∧
    (Instr.illegalOp6 0 0 1 .short .short).WellFormed = false ∧ (Instr.illegalOp7 0 0 2 .short .short).WellFormed = false ∧
    (Instr.illegalOp8 0 0 3 .short .short).WellFormed = false ∧ (Instr.illegalOp9 0 0 1 .short .short).WellFormed = false ∧
    (Instr.illegalOpA 0 0 2 .short .short).WellFormed = false ∧ (Instr.illegalOpB 0 0 3 .short .short).WellFormed = false ∧
    (Instr.illegalOpC 0 0 1 .short .short).WellFormed = false ∧ (Instr.illegalOpD 0 0 2 .short .short).WellFormed = false ∧
    (Instr.illegalOpE 0 0 3 .short .short).WellFormed = false ∧ (Instr.illegalOpF 0 0 1 .short .short).WellFormed = false ∧
    (Instr.illegalRsv7 0 0 1 .short .short 2).WellFormed = false ∧
    (Instr.wireSkip 0xE0).WellFormed = false ∧ (Instr.wireSkip 0xEF).WellFormed = false ∧
    (Instr.wireSkip 0xEE).WellFormed = true ∧ (Instr.illegalOp0 1 0x7F 0 .long .long).WellFormed = true := by decide

/-! ### Decoding, from words written out bit by bit -/

/-- 30_encoding.md R80, R81: RB, CMD (7), RSV (2), RMODE, SMODE, OP (4), from bit 15 down. -/
theorem test_decode_cmdw_ops :
    decode .cmdw (.cmdw 0b1_0100000_00_1_0_0001) = .ok (.resetPeer 1 0x20 .long .short) ∧
    decode .cmdw (.cmdw 0b0_1111111_00_0_1_0010) = .ok (.execute 0 0x7F .short .long) ∧
    decode .cmdw (.cmdw 0b0_0000000_00_0_0_0000) = .ok (.illegalOp0 0 0 0 .short .short) ∧
    decode .cmdw (.cmdw 0b0_0000001_00_1_0_0011) = .ok (.illegalOp3 0 1 0 .long .short) ∧
    decode .cmdw (.cmdw 0b0_0000010_00_0_1_0100) = .ok (.illegalOp4 0 2 0 .short .long) ∧
    decode .cmdw (.cmdw 0b1_0000000_00_0_0_0101) = .ok (.illegalOp5 1 0 0 .short .short) ∧
    decode .cmdw (.cmdw 0b0_1000000_00_0_0_0110) = .ok (.illegalOp6 0 0x40 0 .short .short) ∧
    decode .cmdw (.cmdw 0b0_0000000_00_1_1_0111) = .ok (.illegalOp7 0 0 0 .long .long) ∧
    decode .cmdw (.cmdw 0b0_0000000_00_0_0_1000) = .ok (.illegalOp8 0 0 0 .short .short) := by decide

theorem test_decode_cmdw_more :
    decode .cmdw (.cmdw 0b0_0000000_00_0_0_1001) = .ok (.illegalOp9 0 0 0 .short .short) ∧
    decode .cmdw (.cmdw 0b0_0000000_00_0_0_1010) = .ok (.illegalOpA 0 0 0 .short .short) ∧
    decode .cmdw (.cmdw 0b0_0000000_00_0_0_1011) = .ok (.illegalOpB 0 0 0 .short .short) ∧
    decode .cmdw (.cmdw 0b0_0000000_00_0_0_1100) = .ok (.illegalOpC 0 0 0 .short .short) ∧
    decode .cmdw (.cmdw 0b0_0000000_00_0_0_1101) = .ok (.illegalOpD 0 0 0 .short .short) ∧
    decode .cmdw (.cmdw 0b0_0000000_00_0_0_1110) = .ok (.illegalOpE 0 0 0 .short .short) ∧
    decode .cmdw (.cmdw 0b1_1111111_00_1_1_1111) = .ok (.illegalOpF 1 0x7F 0 .long .long) ∧
    decode .cmdw (.cmdw 0b0_0000000_01_0_0_0010) = .ok (.illegalRsv6 0 0 0 .short .short 2) ∧
    decode .cmdw (.cmdw 0b0_0000000_10_0_0_0010) = .ok (.illegalRsv7 0 0 0 .short .short 2) ∧
    decode .cmdw (.cmdw 0b0_0000000_11_0_0_0001) = .ok (.illegalRsv6 0 0 1 .short .short 1) := by decide

/-- 30_encoding.md R84. -/
theorem test_decode_tags :
    (List.map (fun t => decode .sendTag (.tag t)) [0b0000, 0b0001, 0b0010, 0b0011, 0b0100, 0b0101, 0b0110, 0b0111, 0b1000, 0b1111]).map
      Except.toOption =
      [some .encU8, some .encU16BE, some .encU16LE, some .encU32BE, some .encU32LE, some .encSpan, some .encNullterm,
        some .encList, some (.tagReserved 0), some (.tagReserved 7)] ∧
    (List.map (fun t => decode .recvTag (.tag t)) [0b0000, 0b0001, 0b0010, 0b0011, 0b0100, 0b0101, 0b0110, 0b0111, 0b1000, 0b1101]).map
      Except.toOption =
      [some .decU8, some .decU16BE, some .decU16LE, some .decU32BE, some .decU32LE, some .decSpan, some .decNullterm,
        some .decList, some (.tagReserved 0), some (.tagReserved 5)] := by decide

/-- 30_encoding.md R86 to R97, 00_scope.md R9. -/
theorem test_decode_wire :
    decode .start (.wire [0b11100000]) = .ok .wireStart ∧ decode .scan (.wire [0b11100000]) = .ok .wireStart ∧
    decode .scan (.wire [0b11101111]) = .ok .wireErr ∧ decode .endMark (.wire [0b11101110]) = .ok .wireEnd ∧
    decode .scan (.wire [0b11101110]) = .ok (.wireSkip 0xEE) ∧
    decode .cmdByte (.wire [0b0_0100000]) = .ok (.wireCmdReq 0x20) ∧
    decode .cmdByte (.wire [0b1_0100000]) = .ok (.wireCmdReply 0x20) ∧
    decode .count (.wire [0b00000010]) = .ok (.wireCount 2) ∧ decode .lenShort (.wire [0b11111111]) = .ok (.wireLenShort 255) ∧
    decode .lenLong (.wire [0b00000001, 0b00101100]) = .ok (.wireLenLong 300) ∧
    decode .listCount (.wire [0b00000111]) = .ok (.wireListCount 7) ∧ decode .nul (.wire [0b00000000]) = .ok .wireNul ∧
    decode .pad (.wire [0b00000000]) = .ok .wirePad := by decide

/-- The rejections, by name. -/
theorem test_decode_rejects :
    decode .endMark (.wire [0xEF]) = .error (.notEnd 0xEF) ∧ decode .nul (.wire [0x21]) = .error (.notNul 0x21) ∧
    decode .start (.wire [0x00]) = .error (.notStart 0x00) ∧ decode .pad (.wire [0x01]) = .error (.notPad 0x01) ∧
    decode .lenLong (.wire [0x01]) = .error .wrongLength ∧ decode .scan (.wire []) = .error .wrongLength ∧
    decode .sendTag (.cmdw 0) = .error .wrongMedium := by decide

/-- The rows of opcode_table.json that a bare word names. -/
theorem test_decode_table_words :
    decodeTableWord 16 0x2002 = some (.execute 0 0x20 .short .short) ∧ decodeTableWord 8 0x05 = some .encSpan ∧
    decodeTableWord 8 0x0C = some (.tagReserved 4) ∧ decodeTableWord 8 0xE0 = some .wireStart ∧
    decodeTableWord 8 0xEF = some .wireErr ∧ decodeTableWord 8 0xEE = some .wireEnd ∧
    decodeTableWord 8 0x20 = some (.wireCmdReq 0x20) ∧ decodeTableWord 8 0x80 = some (.wireCmdReply 0) := by decide

/-! ### States to try the machine on -/

/-- The answer is a next state of which `p` holds. -/
def answers (o : Host.Outcome State Fault Refusal) (p : State → Bool) : Bool :=
  match o with
  | .next t => p t
  | .fault _ => false
  | .refused _ => false

/-- 95_test_vectors.md "Default configuration", with a small ceiling and numbers for the OPEN values. -/
def tb : Build := ⟨⟨true, false, false⟩, 3, 10, 750, 0x00, true, .countOnly⟩

/-- After reset, the host having written both stores, with empty lists. -/
def idle : State := { State.reset with build := tb, spWritten := true, rpWritten := true }

def running : Status := ⟨true, false, false, .ok, 0⟩

/-- In the request phase at a byte, the peer answering 0x00. -/
def tx (sp : List SendDesc) (idx : Nat) : State :=
  { idle with
    fsm := .tx
    cl := ⟨2, .short, .short, 0x20⟩
    sp := sp
    txIdx := idx
    txn := BitVec.ofNat 2 idx
    selectN := false
    status := running
    env := ⟨[.ok 0x00], [], [], [], 0⟩ }

/-- In the reply phase, about to receive `bs`. -/
def rx (f : Fsm) (bs : List Byte) : State :=
  { idle with
    fsm := f
    ph := .rep
    cl := ⟨2, .short, .short, 0x20⟩
    rp := [.u8]
    selectN := false
    status := running
    env := ⟨bs.map .ok, [], [], [], 0⟩ }

/-- At a byte of the one receive parameter. -/
def par (r : RecvDesc) (st : Stage) (i : Nat) (len : Word16) (held bs : List Byte) : State :=
  { rx .rxParam bs with rp := [r], cur := ⟨0, [], i, len, st, held⟩ }

def long (s : State) : State := { s with cl := ⟨2, .long, .long, 0x20⟩ }

def prefixed (s : State) : State := { s with build := { s.build with listForm := .prefixed } }

/-- The same with a failing exchange. -/
def failing (e : IoErr) (s : State) : State := { s with env := ⟨[.fail e], [], [], [], 0⟩ }

/-- An acquire or a release with the given draws. -/
def line (f : Fsm) (rs : List ReadyDraw) (ws : List WriteDraw) : State :=
  { rx f [] with env := ⟨[], rs, ws, [], 0⟩ }

def withHost (s : State) (q : List HostAct) : State := { s with hostq := q }

def good (s : State) : State := { s with fsm := .done, status := ⟨false, true, false, .ok, 0⟩ }

/-! ### Single steps, with the results of 95_test_vectors.md -/

/-- HO-10: OP 0x0. The log and STATUS. -/
theorem test_ho10 :
    answers (step (withHost idle [.writeReg .cmdw 0x0000])) (fun t =>
      t.status.toWord == 0x0072 && t.log == [.issue 0x0000, .complete 0x0072] && t.fsm == .done && t.selectN) = true := by decide

/-- HO-13, HO-14: RSV. -/
theorem test_ho13 :
    answers (step (withHost idle [.writeReg .cmdw 0x0042])) (fun t => t.status.toWord == 0x0072) = true ∧
    answers (step (withHost idle [.writeReg .cmdw 0x0082])) (fun t => t.status.toWord == 0x0072) = true := by decide

set_option maxRecDepth 8000 in
/-- HO-15: a 256-byte span in SHORT mode; EN-12. -/
theorem test_ho15 :
    answers (step (withHost { idle with sp := [.span (List.replicate 256 0)] } [.writeReg .cmdw 0x2002])) (fun t =>
      t.status.toWord == 0x0072 && t.log == [.issue 0x2002, .complete 0x0072]) = true := by decide

/-- HO-16: a reserved tag in RP; EN-23: one in SP. -/
theorem test_ho16 :
    answers (step (withHost { idle with rp := [.reserved 1] } [.writeReg .cmdw 0x2002])) (fun t =>
      t.status.toWord == 0x0072) = true ∧
    answers (step (withHost { idle with sp := [.list 0 (.cons (.reserved 0) .nil)] } [.writeReg .cmdw 0x2002])) (fun t =>
      t.status.toWord == 0x0072) = true := by decide

/-- HO-3, HO-9: EXECUTE and RESET_PEER are issued: STATUS 0x0001. -/
theorem test_ho3 :
    answers (step (withHost idle [.writeReg .cmdw 0x2002])) (fun t => t.status.toWord == 0x0001 && t.fsm == .acqR) = true ∧
    answers (step (withHost idle [.writeReg .cmdw 0x0031])) (fun t => t.status.toWord == 0x0001 && t.fsm == .rpSel) = true := by
  decide

/-- W1, TX-1, TX-3, TX-5: request frames. -/
theorem test_request_frames :
    (tx [.u8 3] 0).requestBytes = [0xE0, 0x20, 0x01, 0x01, 0x03, 0xEE] ∧
    (tx [] 0).requestBytes = [0xE0, 0x20, 0x00, 0xEE] ∧
    { tx [] 0 with build := { tb with wv := ⟨false, false, true⟩ } }.requestBytes = [0xE0, 0x20, 0xEE, 0x00] ∧
    { tx [.u32be 0x0A0B0C0D] 0 with build := { tb with wv := ⟨false, false, true⟩ } }.requestBytes =
      [0xE0, 0x20, 0x04, 0x0A, 0x0B, 0x0C, 0x0D, 0xEE] := by decide

/-- EN-3, EN-4, EN-7, EN-14, EN-19, EN-20: the bytes of send descriptors. -/
theorem test_encode_short :
    (SendDesc.u16be 0x1234).bytes .countOnly .short = [0x02, 0x12, 0x34] ∧
    (SendDesc.u16le 0x1234).bytes .countOnly .short = [0x02, 0x34, 0x12] ∧
    (SendDesc.u32le 0x0A0B0C0D).bytes .countOnly .long = [0x00, 0x04, 0x0D, 0x0C, 0x0B, 0x0A] ∧
    (SendDesc.nullterm [0x61, 0x62]).bytes .countOnly .short = [0x03, 0x61, 0x62, 0x00] ∧
    (SendDesc.list 5 (.cons (.span [0x61]) (.cons (.span [0x62, 0x63]) .nil))).bytes .countOnly .short =
      [0x02, 0x01, 0x61, 0x02, 0x62, 0x63] ∧
    (SendDesc.list 7 (.cons (.list 0 (.cons (.u8 1) .nil)) (.cons (.list 0 .nil) .nil))).bytes .countOnly .long =
      [0x02, 0x01, 0x00, 0x01, 0x01, 0x00] := by decide

/-- EN-25, EN-26 under PREFIXED. -/
theorem test_encode_prefixed :
    (SendDesc.list 5 (.cons (.span [0x61]) (.cons (.span [0x62, 0x63]) .nil))).bytes .prefixed .long =
      [0x00, 0x08, 0x02, 0x00, 0x01, 0x61, 0x00, 0x02, 0x62, 0x63] ∧
    (SendDesc.list 7 (.cons (.list 0 (.cons (.u8 1) .nil)) (.cons (.list 0 .nil) .nil))).bytes .prefixed .short =
      [0x07, 0x02, 0x03, 0x01, 0x01, 0x01, 0x01, 0x00] := by decide

/-- HS-3, HS-8 and HS-7: an acquire's sample, a failed Select write, a failed sample. -/
theorem test_acquire :
    answers (step (line .acqNr [.ok true] [])) (fun t => t.fsm == .acqNr && t.log == [.ready (.ok true)]) = true ∧
    ∀ e : IoErr,
      (∃ t, step (line .acqSel [] [.fail e false]) = .next t ∧ t.fsm = .rel ∧ t.log = [.write .selectN false (some e)] ∧
        t.err = some (.transport e)) ∧
      ∃ t, step (line .acqR [.fail e] []) = .next t ∧ t.fsm = .rel ∧ t.err = some (.transport e) :=
  ⟨by decide, fun _ => ⟨⟨_, rfl, rfl, rfl, rfl⟩, _, rfl, rfl, rfl⟩⟩

/-- The STATUS words of those vectors. -/
theorem test_status_words :
    (⟨false, true, false, .transport, 0⟩ : Status).toWord = 0x0012 ∧ (⟨false, true, false, .timeout, 0⟩ : Status).toWord = 0x0022 := by
  decide

/-- HS-8, HS-9, HS-10: the release after a failure, and a release that fails itself. -/
theorem test_release (e : IoErr) :
    (∃ t, step { line .rel [] [.ok] with err := some (.transport e) } = .next t ∧
      t.status = ⟨false, true, false, .transport, 0⟩ ∧ t.terr = e ∧ t.selectN = true) ∧
    (∃ t, step { line .rel [] [.fail e false] with ph := .req } = .next t ∧
      t.status = ⟨false, true, false, .transport, 0⟩ ∧ t.terr = e ∧ t.selectN = false ∧ t.fsm = .done) ∧
    ∃ t, step { line .rel [] [.fail e false] with err := some .timeout } = .next t ∧ t.status = ⟨false, true, false, .timeout, 0⟩ :=
  ⟨⟨_, rfl, rfl, rfl, rfl⟩, ⟨_, rfl, rfl, rfl, rfl, rfl⟩, _, rfl, rfl⟩

/-- RS-3, RS-4: a failed write of the peer reset. -/
theorem test_reset_peer_fails (e : IoErr) :
    (∃ t, step { line .rpRlow [] [.fail e false] with cl := ⟨1, .short, .short, 0⟩ } = .next t ∧
      t.status = ⟨false, true, false, .transport, 0⟩ ∧ t.terr = e ∧ t.resetN = false ∧ t.fsm = .done) ∧
    ∃ t, step { line .rpRhigh [] [.fail e false] with cl := ⟨1, .short, .short, 0⟩ } = .next t ∧
      t.status = ⟨false, true, false, .transport, 0⟩ ∧ t.log = [.write .resetN true (some e), .complete t.status.toWord] :=
  ⟨⟨_, rfl, rfl, rfl, rfl, rfl⟩, _, rfl, rfl, rfl⟩

/-- SC-1, SC-3, SC-4 and SC-11: the scan. -/
theorem test_scan :
    answers (step (rx .rxScan [0xE0])) (fun t => t.fsm == .rxCmd && t.scnt == 1) = true ∧
    answers (step (rx .rxScan [0xEE])) (fun t => t.fsm == .rxScan && t.scnt == 1) = true ∧
    answers (step (rx .rxScan [0xEF])) (fun t => t.fsm == .rel && t.err == some .errorResponse) = true ∧
    answers (step { rx .rxScan [0xA0] with scnt := 2 }) (fun t => t.fsm == .rel && t.err == some .timeout && t.scnt == 3) = true := by
  decide

/-- FC-2, FC-4, FC-1: the identifier byte. -/
theorem test_cmd_byte :
    answers (step (rx .rxCmd [0x20])) (fun t => t.err == some (.unexpectedByte 0x20)) = true ∧
    answers (step (rx .rxCmd [0xEF])) (fun t => t.err == some (.unexpectedByte 0xEF)) = true ∧
    answers (step (rx .rxCmd [0xA0])) (fun t => t.fsm == .rxCount && t.err == none) = true := by decide

/-- FC-6, FC-1, FC-8, FC-1: the count byte and END. -/
theorem test_count_and_end :
    answers (step (rx .rxCount [0x02])) (fun t => t.err == some (.unexpectedByte 0x02)) = true ∧
    answers (step (rx .rxCount [0x01])) (fun t => t.fsm == .rxParam) = true ∧
    answers (step (rx .rxEnd [0x00])) (fun t => t.err == some (.unexpectedByte 0x00)) = true ∧
    answers (step (rx .rxEnd [0xEE])) (fun t => t.fsm == .rel && t.err == none) = true := by decide

/-- DE-1, DE-3: U8. -/
theorem test_dec_u8 :
    answers (exec .decU8 (par .u8 .payload 0 1 [] [0x05])) (fun t => t.dst == [([0], .u8 0x05)] && t.fsm == .rxEnd) = true ∧
    answers (exec .decU8 (par .u8 .len0 0 0 [] [0x02])) (fun t => t.err == some .malformedLength) = true := by decide

/-- DE-6, DE-7: U16BE, U16LE, the last byte of `12 34`. -/
theorem test_dec_u16 :
    answers (exec .decU16BE (par .u16be .payload 1 2 [0x12] [0x34])) (fun t => t.dst == [([0], .u16 0x1234)]) = true ∧
    answers (exec .decU16LE (par .u16le .payload 1 2 [0x12] [0x34])) (fun t => t.dst == [([0], .u16 0x3412)]) = true := by decide

/-- DE-10, DE-11: U32BE, U32LE. -/
theorem test_dec_u32 :
    answers (exec .decU32BE (par .u32be .payload 3 4 [0x0A, 0x0B, 0x0C] [0x0D])) (fun t =>
      t.dst == [([0], .u32 0x0A0B0C0D)]) = true ∧
    answers (exec .decU32LE (par .u32le .payload 3 4 [0x0D, 0x0C, 0x0B] [0x0A])) (fun t =>
      t.dst == [([0], .u32 0x0A0B0C0D)]) = true := by decide

/-- DE-15, DE-14: SPAN. -/
theorem test_dec_span :
    answers (exec .decSpan (par (.span 4) .len0 0 0 [] [0x05])) (fun t => t.err == some .capacityExceeded) = true ∧
    answers (exec .decSpan { par (.span 4) .payload 3 4 [] [0xEF] with
      dst := [([0], .bytes [(0, 0xDE), (1, 0xAD), (2, 0xBE)] none)] }) (fun t =>
      t.dst == [([0], .bytes [(0, 0xDE), (1, 0xAD), (2, 0xBE), (3, 0xEF)] (some 4))]) = true := by decide

/-- DE-19, DE-22: NULLTERM. -/
theorem test_dec_nullterm :
    answers (exec .decNullterm (par (.nullterm 8) .payload 2 3 [] [0x21])) (fun t =>
      t.status.toWord == 0x2186 && t.fsm == .halted && t.dst == []) = true ∧
    answers (exec .decNullterm (par (.nullterm 1) .len0 0 0 [] [0x03])) (fun t => t.err == some .capacityExceeded) = true := by
  decide

/-- DE-28, DE-33: LIST. -/
theorem test_dec_list :
    answers (exec .decList (par (.list 2 .u8) .count 0 0 [] [0x03])) (fun t => t.err == some .capacityExceeded) = true ∧
    answers (exec .decSpan { prefixed (par (.list 4 (.span 8)) .payload 1 2 [] [0x63]) with
      cur := ⟨0, [⟨1, 2, some 5, 5⟩], 1, 2, .payload, []⟩ }) (fun t => t.err == some .malformedLength) = true := by decide

/-- TX-11 and W1: a tag's byte and END go out; a failed exchange leaves TXN. -/
theorem test_send :
    answers (exec .encU8 (tx [.u8 3] 4)) (fun t => t.log == [.xchg 0x03 (.ok 0x00)] && t.txIdx == 5 && t.txn == 1) = true ∧
    answers (exec .wireEnd (tx [.u8 3] 5)) (fun t => t.log == [.xchg 0xEE (.ok 0x00)] && t.fsm == .rel && t.txn == 2) = true ∧
    ∀ e, ∃ t, exec .encU8 (failing e (tx [.u8 3] 3)) = .next t ∧ t.log = [.xchg 0x01 (.fail e)] ∧ t.fsm = .rel ∧ t.txn = 3 ∧
      t.err = some (.transport e) :=
  ⟨by decide, by decide, fun _ => ⟨_, rfl, rfl, rfl, rfl, rfl⟩⟩

/-- EN-26 under PREFIXED and P2: the head of a sub-list, and a pad byte. -/
theorem test_send_more :
    answers (exec .encList (prefixed (tx [.list 0 .nil] 3))) (fun t => t.log == [.xchg 0x01 (.ok 0x00)] && t.fsm == .tx) = true ∧
    answers (exec .wirePad { tx [.u8 3] 7 with build := { tb with wv := ⟨true, false, true⟩ } }) (fun t =>
      t.log == [.xchg 0x00 (.ok 0x00)] && t.fsm == .rel && t.txn == 0) = true := by decide

/-- HO-17, HO-18: a CMDW write while BUSY, and in HALTED. -/
theorem test_cmdw_ignored :
    answers (exec (.resetPeer 0 0 .short .short) (rx .rxEnd [])) (fun t => t.log == [] && t.fsm == .rxEnd) = true ∧
    answers (step (withHost { idle with fsm := .halted, status := ⟨false, true, true, .terminator, 0x21⟩ } [.writeReg .cmdw 1]))
      (fun t => t.status.toWord == 0x2186 && t.log == []) = true := by decide

/-- 44_transaction.md R199: EXECUTE straight after reset breaks H1, with one store written too; RESET_PEER does not. -/
theorem test_h1 :
    step (withHost State.reset [.writeReg .cmdw 0x2002]) = .refused (.brokenDuty .h1) ∧
    step (withHost { idle with rpWritten := false } [.writeReg .cmdw 0x2002]) = .refused (.brokenDuty .h1) ∧
    answers (step (withHost State.reset [.writeReg .cmdw 0x0001])) (fun t => t.fsm == .rpSel) = true ∧
    answers (step (withHost State.reset [.send [.u8 3]])) (fun t => t.spWritten && !t.rpWritten) = true :=
  ⟨rfl, rfl, by decide, by decide⟩

/-- 93_implementation_defined.md I16 and 10_state.md R48: a value not yet written, at reset and while BUSY, is a fault; one written, read while BUSY,
and one that a failure made unspecified break H4. -/
theorem test_host_reads :
    step (withHost State.reset [.readDest [0]]) = .fault .unwrittenRead ∧
    step (withHost (par (.span 4) .payload 0 2 [] []) [.readByte [0] 0]) = .fault .unwrittenRead ∧
    step (withHost { par (.span 4) .payload 1 2 [] [] with dst := [([0], .bytes [(0, 1)] none)] } [.readByte [0] 0]) =
      .refused (.brokenDuty .h4) ∧
    step (withHost { idle with dstUnspec := true, status := ⟨false, true, false, .timeout, 0⟩ } [.readDest [0]]) =
      .refused (.brokenDuty .h4) := ⟨rfl, rfl, rfl, rfl⟩

/-! ### The hypotheses of the statements are met -/

theorem test_witness_DecodeEncode :
    (Instr.wireLenLong 300).WellFormed = true ∧ Site.lenLong ∈ (Instr.wireLenLong 300).sites ∧
    (Instr.tagReserved 7).WellFormed = true ∧ Site.recvTag ∈ (Instr.tagReserved 7).sites ∧
    (Instr.illegalRsv7 1 0x7F 0 .long .long 2).WellFormed = true ∧
    Site.cmdw ∈ (Instr.illegalRsv7 1 0x7F 0 .long .long 2).sites := by decide

theorem test_witness_EncodeDecode :
    decode .scan (.wire [0xEE]) = .ok (.wireSkip 0xEE) ∧ decode .cmdw (.cmdw 0xFFFF) = .ok (.illegalRsv6 1 0x7F 1 .long .long 15) := by
  decide

theorem test_witness_CmdwMasks :
    (0x2031 : Word16) &&& 0x00CF = 0x0001 ∧ (0xFF32 : Word16) &&& 0x00CF = 0x0002 ∧
    (0x0042 : Word16) &&& 0x00CF ≠ 0x0001 ∧ (0x0042 : Word16) &&& 0x00CF ≠ 0x0002 ∧
    idle.fsm ≠ .halted ∧ idle.status.busy = false := by decide

/-- CMDW; TX; the four reply sites; RX_PARAM; WAIT; no host action. -/
theorem test_witness_StepRunsDecoded :
    ((withHost idle [.writeReg .cmdw 0x2002]).hostq = [.writeReg .cmdw 0x2002] ∧ idle.status.busy = false ∧
      idle.spWritten = true ∧ idle.rpWritten = true) ∧
    ((tx [.u8 3] 3).hostq = [] ∧ (tx [.u8 3] 3).fsm = .tx ∧ (tx [.u8 3] 3).nextUnit = some (.encU8, 1)) ∧
    ((rx .rxScan [0xE0]).env.xchg = .ok 0xE0 ∧ decode .scan (.wire [0xE0]) = .ok .wireStart) ∧
    ((rx .rxCmd [0xA0]).env.xchg = .ok 0xA0 ∧ decode .cmdByte (.wire [0xA0]) = .ok (.wireCmdReply 0x20)) ∧
    ((rx .rxCount [1]).env.xchg = .ok 1 ∧ decode .count (.wire [1]) = .ok (.wireCount 1)) ∧
    ((rx .rxEnd [0xEE]).env.xchg = .ok 0xEE ∧ decode .endMark (.wire [0xEE]) = .ok .wireEnd) ∧
    ((par .u8 .len0 0 0 [] [1]).fsm = .rxParam ∧ (par .u8 .len0 0 0 [] [1]).curDesc = some .u8) ∧
    ((withHost idle [.wait]).hostq = [.wait] ∧ idle.status.done = false ∧ idle.status.fault = false ∧ idle.hostq = []) := by
  decide

/-- H1 with either store unwritten; H2; H3; H4 of a written value, of a written byte before RLEN and with it, and of an unspecified value; H6. -/
theorem test_witness_BrokenDuties :
    (idle.status.busy = false ∧ idle.fsm ≠ .halted ∧ (0x2002 : Word16) &&& 0x00CF = 0x0002 ∧
      State.reset.spWritten = false ∧ State.reset.rpWritten = false) ∧
    ((withHost (rx .rxEnd []) [.writeReg .cmdw 1]).status.busy = true) ∧
    ((withHost (rx .rxEnd []) [.send []]).status.busy = true) ∧ ((withHost (rx .rxEnd []) [.recv []]).status.busy = true) ∧
    (¬((rx .rxEnd []).status.done = true ∧ (rx .rxEnd []).status.code = .ok) ∧
      { rx .rxEnd [] with dst := [([0], .u8 1)] }.dst.get [0] = some (.u8 1) ∧
      { rx .rxEnd [] with dst := [([0], .bytes [(0, 1)] none)] }.dst.get [0] = some (.bytes [(0, 1)] none) ∧
      { rx .rxEnd [] with dst := [([0], .bytes [(0, 1)] (some 1))] }.dst.get [0] = some (.bytes [(0, 1)] (some 1)) ∧
      Memory.read [(0, 1)] 0 = some 1 ∧
      { idle with dstUnspec := true, status := ⟨false, true, false, .timeout, 0⟩ }.dstUnspec = true ∧
      { idle with dstUnspec := true, status := ⟨false, true, false, .timeout, 0⟩ }.status.code ≠ .ok) ∧
    (withHost idle [.readReg .terr]).status.code ≠ .transport := by decide

theorem test_witness_BrokenDuties_leaf (buf : Memory) : Leaf.u8 1 ≠ .bytes buf none := nofun

/-- TERR after TRANSPORT; the writes of STATUS and TERR. -/
theorem test_witness_HostRegisters :
    ((withHost idle [.readReg .cmdw]).hostq = [.readReg .cmdw] ∧ (withHost idle [.readReg .status]).hostq = [.readReg .status]) ∧
    ((withHost idle [.writeReg .cmdw 1]).hostq = [.writeReg .cmdw 1] ∧ idle.status.busy = false ∧
      idle.spWritten = true ∧ idle.rpWritten = true ∧ (1 : Word16) &&& 0x00CF ≠ 0x0002) ∧
    ((withHost { idle with status := ⟨false, true, false, .transport, 0⟩ } [.readReg .terr]).hostq = [.readReg .terr] ∧
      (withHost { idle with status := ⟨false, true, false, .transport, 0⟩ } [.readReg .terr]).status.code = .transport) ∧
    ((withHost idle [.writeReg .status 3]).hostq = [.writeReg .status 3] ∧
      (withHost idle [.writeReg .terr 3]).hostq = [.writeReg .terr 3]) := by decide

set_option maxRecDepth 8000 in
/-- Lists of 255 and of 0. -/
theorem test_witness_StoreAccess_writes :
    ((withHost idle [.send (List.replicate 255 (.u8 0))]).hostq = [.send (List.replicate 255 (.u8 0))] ∧
      idle.status.busy = false ∧ (List.replicate 255 (SendDesc.u8 0)).length ≤ 255) ∧
    ((withHost idle [.recv []]).hostq = [.recv []] ∧ ([] : List RecvDesc).length ≤ 255) := by decide

/-- At reset and while BUSY, and after OK: nothing written; bytes without RLEN; the byte at RLEN and the last before it; each type written. -/
theorem test_witness_StoreAccess_reads :
    (State.reset.dstUnspec = false ∧ State.reset.dst.get [0] = none ∧ (rx .rxParam []).dstUnspec = false ∧
      (rx .rxParam []).dst.get [0] = none ∧ Memory.read [(0, 1)] 1 = none) ∧
    ((good idle).status.done = true ∧ (good idle).status.code = .ok ∧ (good idle).dst.get [0] = none) ∧
    ({ good idle with dst := [([0], .bytes [(0, 1)] none)] }.dst.get [0] = some (.bytes [(0, 1)] none)) ∧
    ({ good idle with dst := [([0], .bytes [(0, 1)] (some 1))] }.dst.get [0] = some (.bytes [(0, 1)] (some 1)) ∧
      (1 : Nat) ≤ 1 ∧ (0 : Nat) < 1 ∧ Memory.read [(0, 1)] 0 = some 1) ∧
    ({ good idle with dst := [([0], .u8 1)] }.dst.get [0] = some (.u8 1)) ∧
    ({ good idle with dst := [([0, 2], .u16 1)] }.dst.get [0, 2] = some (.u16 1)) ∧
    ({ good idle with dst := [([0], .u32 1)] }.dst.get [0] = some (.u32 1)) ∧
    ({ good idle with dst := [([0], .bytes [] (some 0))] }.dst.get [0] = some (.bytes [] (some 0))) ∧
    ({ good idle with dst := [([0], .count 255)] }.dst.get [0] = some (.count 255)) := by decide

/-- An EXECUTE timed out, and the last step of a good RESET_PEER. -/
def recovering : State :=
  { idle with fsm := .rpBoot, cl := ⟨1, .short, .short, 0⟩, dstUnspec := true, status := ⟨true, false, false, .timeout, 0⟩ }

/-- The boundary where the destinations are unspecified and yet DONE = 1 and CODE = OK (log entry 28): reached by a step, nothing listed, and either
read faults. -/
theorem test_witness_StoreAccess_unspecified :
    answers (step recovering) (fun t => t.dstUnspec && t.status.done && t.status.code == .ok && (t.dst.get [0]).isNone) = true ∧
    (good recovering).dstUnspec = true ∧ (good recovering).status.done = true ∧ (good recovering).status.code = .ok ∧
    step (withHost (good recovering) [.readDest [0]]) = .fault .unwrittenRead ∧
    step (withHost (good recovering) [.readByte [0] 0]) = .fault .unwrittenRead :=
  ⟨by decide, rfl, rfl, rfl, rfl, rfl⟩

theorem test_witness_CmdwIgnored :
    Site.cmdw ∈ (Instr.execute 0 0 .short .short).sites ∧ { idle with fsm := Fsm.halted }.fsm = .halted ∧
    (rx .rxEnd []).status.busy = true := by decide

set_option maxRecDepth 8000 in
/-- For IllegalCompletes, ResetPeerIssues, ExecuteStarts and ExecuteRejected: the stores of EN-11 and EN-12 at the boundary of SHORT; an
ECAP of 255 and of 256. -/
theorem test_witness_Issue :
    idle.fsm ≠ .halted ∧ idle.status.busy = false ∧
    (∀ d ∈ [SendDesc.span (List.replicate 255 0)], d.valid .countOnly .short = true) ∧
    (∀ r ∈ [RecvDesc.list 255 (.span 65535)], r.valid = true) ∧
    (∃ d ∈ [SendDesc.span (List.replicate 256 0)], d.valid .countOnly .short = false) ∧
    (∃ r ∈ [RecvDesc.list 256 .u8], r.valid = false) := by decide

theorem test_witness_ResetPeerRuns :
    { idle with fsm := Fsm.rpSel, env := ⟨[], [], [.ok, .ok, .ok], [], 0⟩ }.env.writeIn = .ok :: .ok :: .ok :: [] ∧
    { idle with fsm := Fsm.rpSel }.hostq = [] := by decide

theorem test_witness_ResetPeerStops (e : IoErr) :
    ∀ f ∈ [Fsm.rpSel, .rpRlow, .rpRhigh],
      ({ line f [] [.fail e false] with cl := ⟨1, .short, .short, 0⟩ }).cl.op = 0x1 ∧
      (line f [] [.fail e false]).env.write = .fail e false ∧ (line f [] [.fail e false]).fsm = f ∧
      (line f [] [.fail e false]).hostq = [] := fun _ _ => ⟨rfl, rfl, rfl, rfl⟩

/-- A reserved tag two lists down in RP; as an element tag in SP; and, for the second part of ExecuteRejected, at the issue check. -/
theorem test_witness_ReservedTagRejected :
    { idle with rp := [.list 1 (.list 1 (.reserved 7))] }.holdsTag ((1 : BitVec 1) ++ (7 : BitVec 3)) = true ∧
    { idle with sp := [.list 8 .nil] }.holdsTag ((1 : BitVec 1) ++ (0 : BitVec 3)) = true ∧
    { idle with status := running, cl := ⟨2, .short, .short, 0⟩ }.status.busy = true ∧
    { idle with status := running, cl := ⟨2, .short, .short, 0⟩ }.cl.op = 0x2 ∧
    { idle with status := running, cl := ⟨2, .short, .short, 0⟩ }.fsm = .idle := by decide

/-- A send descriptor of each tag, for `SendsNextByte`, and the frame's own units with a count and a pad. -/
theorem test_witness_SendsNextByte :
    (tx [.u8 0] 3).nextUnit = some (.encU8, 0x01) ∧ (tx [.u16be 0] 3).nextUnit = some (.encU16BE, 0x02) ∧
    (tx [.u16le 0] 3).nextUnit = some (.encU16LE, 0x02) ∧ (tx [.u32be 0] 3).nextUnit = some (.encU32BE, 0x04) ∧
    (tx [.u32le 0] 3).nextUnit = some (.encU32LE, 0x04) ∧ (tx [.span []] 3).nextUnit = some (.encSpan, 0x00) ∧
    (tx [.nullterm []] 4).nextUnit = some (.encNullterm, 0x00) ∧ (tx [.list 0 .nil] 3).nextUnit = some (.encList, 0x00) ∧
    (tx [] 0).nextUnit = some (.wireStart, 0xE0) ∧ (tx [] 1).nextUnit = some (.wireCmdReq 0x20, 0x20) ∧
    (tx [] 2).nextUnit = some (.wireCount 0, 0x00) ∧ (tx [] 3).nextUnit = some (.wireEnd, 0xEE) ∧
    { tx [.u8 3] 6 with build := { tb with wv := ⟨true, false, true⟩ } }.nextUnit = some (.wirePad, 0x00) ∧
    (tx [] 0).fsm = .tx ∧ (tx [] 0).env.xchg = .ok 0x00 ∧ (∀ e, (failing e (tx [] 0)).env.xchg = .fail e) :=
  ⟨rfl, rfl, rfl, rfl, rfl, rfl, rfl, rfl, rfl, rfl, rfl, rfl, rfl, rfl, rfl, fun _ => rfl⟩

/-- A short prefix, a NUL, and the two bytes of a long prefix. -/
theorem test_witness_SendsUnits :
    (tx [.u8 3] 3).fsm = .tx ∧ (tx [.u8 3] 3).env.xchg = .ok 0x00 ∧ (tx [.u8 3] 3).nextUnit = some (.encU8, 0x01) ∧
    (tx [.nullterm []] 4).nextUnit = some (.encNullterm, NUL) ∧
    (long (tx [.u8 3] 3)).nextUnit = some (.encU8, 0x00) ∧ (long (tx [.u8 3] 3)).requestUnits[4]? = some (.encU8, 0x01) ∧
    (long (tx [.u8 3] 4)).requestUnits[4 - 1]? = some (.encU8, 0x00) ∧
    (long (tx [.u8 3] 4)).requestUnits[4]? = some (.encU8, 0x01) ∧ (long (tx [.u8 3] 4)).nextUnit = some (.encU8, 0x01) := by
  decide

theorem test_witness_RequestSent :
    let s : State := { tx [] 0 with env := ⟨[.ok 0, .ok 0xEF, .ok 1, .ok 2], [], [], [], 0⟩ }
    s.hostq = [] ∧ s.fsm = .tx ∧ s.txIdx = 0 ∧ s.txn = 0 ∧ ([0, 0xEF, 1, 2] : List Byte).length = s.requestBytes.length ∧
      s.env.xchgIn = ([0, 0xEF, 1, 2] : List Byte).map .ok ++ [] := by decide

theorem test_witness_AcquireSteps :
    (line .acqNr [.ok true] []).env.ready = .ok true ∧ (line .acqNr [.ok false] []).env.ready = .ok false ∧
    (line .acqR [.ok true] []).fsm = .acqR ∧
    ({ line .acqSel [] [.ok] with ph := .req }).env.write = .ok ∧ ({ line .acqSel [] [.ok] with ph := .req }).ph = .req ∧
    (line .acqSel [] [.ok]).ph = .rep ∧ 0 < (line .acqSel [] [.ok]).build.scanCeiling ∧
    { line .acqSel [] [.ok] with build := { tb with scanCeiling := 0 } }.build.scanCeiling = 0 ∧
    (line .acqSel [] [.ok]).hostq = [] := by decide

theorem test_witness_AcquireSteps_fails (e : IoErr) :
    (line .acqR [.fail e] []).env.ready = .fail e ∧ (line .acqSel [] [.fail e true]).env.write = .fail e true := ⟨rfl, rfl⟩

theorem test_witness_AcquireHangs :
    (line .acqR (List.replicate 2 (.ok false)) []).env.readyIn = List.replicate 2 (.ok false) ++ [] ∧
    (line .acqNr (List.replicate 2 (.ok true)) []).env.readyIn = List.replicate 2 (.ok true) ++ [] ∧
    (line .acqR [] []).fsm = .acqR ∧ (line .acqNr [] []).fsm = .acqNr ∧ (line .acqR [] []).hostq = [] := by decide

/-- For PhaseEnds, both phases; for FirstFailureWins, a failure kept, and Release's own. -/
theorem test_witness_Release :
    ((line .rel [] [.ok]).fsm = .rel ∧ (line .rel [] [.ok]).env.write = .ok ∧ (line .rel [] [.ok]).err = none ∧
      (line .rel [] [.ok]).ph = .rep ∧ { line .rel [] [.ok] with ph := Phase.req }.ph = .req ∧ (line .rel [] [.ok]).hostq = []) ∧
    ((line .rel [] [.ok]).cl.op = 0x2 ∧ { line .rel [] [.ok] with err := some .timeout }.err = some .timeout) := by decide

theorem test_witness_Release_fails (e : IoErr) :
    (line .rel [] [.fail e false]).err = none ∧ (line .rel [] [.fail e false]).env.write = .fail e false := ⟨rfl, rfl⟩

/-- One below the ceiling and at it. -/
theorem test_witness_ScanUnits :
    (rx .rxScan []).fsm = .rxScan ∧ (0xEE : Byte) ≠ START ∧ (0xEE : Byte) ≠ ERR ∧
    { rx .rxScan [] with scnt := 1 }.scnt + 1 ≠ (rx .rxScan []).build.scanCeiling ∧
    { rx .rxScan [] with scnt := 2 }.scnt + 1 = (rx .rxScan []).build.scanCeiling := by decide

theorem test_witness_ScanTimesOut :
    let s := rx .rxScan [0xA0, 0xA0, 0xA0]
    s.hostq = [] ∧ s.fsm = .rxScan ∧ s.scnt = 0 ∧ 0 < s.build.scanCeiling ∧
      ([0xA0, 0xA0, 0xA0] : List Byte).length = s.build.scanCeiling ∧
      (∀ b ∈ ([0xA0, 0xA0, 0xA0] : List Byte), b ≠ START ∧ b ≠ ERR) ∧
      s.env.xchgIn = ([0xA0, 0xA0, 0xA0] : List Byte).map .ok ++ [] := by decide

/-- START on the last read the ceiling allows. -/
theorem test_witness_ScanFindsStart :
    let s := rx .rxScan [0xA0, 0xA0, 0xE0]
    s.hostq = [] ∧ s.fsm = .rxScan ∧ s.scnt = 0 ∧ ([0xA0, 0xA0] : List Byte).length + 1 ≤ s.build.scanCeiling ∧
      (∀ b ∈ ([0xA0, 0xA0] : List Byte), b ≠ START ∧ b ≠ ERR) ∧
      s.env.xchgIn = ([0xA0, 0xA0] : List Byte).map .ok ++ .ok START :: [] := by decide

theorem test_witness_ErrReply :
    let s : State := { rx .rxScan [] with env := ⟨[.ok 0xEF], [], [.ok], [], 0⟩ }
    s.hostq = [] ∧ s.fsm = .rxScan ∧ s.cl.op = 0x2 ∧ s.env.xchgIn = .ok ERR :: [] ∧ s.env.writeIn = .ok :: [] := by decide

/-- For CmdCheck, CountCheck and EndCheck. -/
theorem test_witness_Checks :
    (rx .rxCmd []).fsm = .rxCmd ∧ (0x21 : BitVec 7) ≠ (rx .rxCmd []).cl.cmd ∧ (rx .rxCmd []).build.wv.countByte = true ∧
    { rx .rxCmd [] with build := { tb with wv := ⟨false, false, false⟩ } }.build.wv.countByte = false ∧
    (rx .rxCount []).fsm = .rxCount ∧ (2 : Byte).toNat ≠ (rx .rxCount []).rp.length ∧ (1 : Byte).toNat = (rx .rxCount []).rp.length ∧
    (rx .rxEnd [0]).fsm = .rxEnd ∧ (0 : Byte) ≠ END ∧ (rx .rxEnd [0]).env.xchg = .ok 0 ∧ (rx .rxEnd [0]).hostq = [] ∧
    Machine.tagReserved RecvDesc.u8.tag = false := by decide

theorem test_witness_ReadFails (e : IoErr) :
    (∀ f ∈ [Fsm.rxScan, .rxCmd, .rxCount, .rxEnd], (failing e (rx f [])).fsm = f ∧ (failing e (rx f [])).env.xchg = .fail e) ∧
    (failing e (par .u8 .len0 0 0 [] [])).curDesc = some .u8 ∧ (failing e (par .u8 .len0 0 0 [] [])).env.xchg = .fail e :=
  ⟨fun _ _ => ⟨rfl, rfl⟩, rfl, rfl⟩

/-- For ScalarPrefix, SpanPrefix and ListPrefix: SHORT, and the second byte of LONG. -/
theorem test_witness_Prefixes :
    (∀ r ∈ [RecvDesc.u8, .u16be, .u16le, .u32be, .u32le, .span 4, .nullterm 4, .list 2 .u8],
      (par r .len0 0 0 [] [0x04]).fsm = .rxParam ∧ (par r .len0 0 0 [] [0x04]).env.xchg = .ok 0x04 ∧
      (par r .len0 0 0 [] [0x04]).cl.rmode = .short ∧ (par r .len0 0 0 [] [0x04]).cur.stage = .len0 ∧
      (4 : Word16) = BitVec.ofNat 16 (0x04 : Byte).toNat ∧ (par r .len0 0 0 [] [0x04]).curDesc = some r) ∧
    ((long (par .u8 .len1 0 0 [0x01] [0x01])).cur.stage = .len1 ∧ (long (par .u8 .len1 0 0 [0x01] [0x01])).cur.held = [0x01] ∧
      (257 : Word16) = BitVec.ofNat 16 ((0x01 : Byte).toNat * 256 + (0x01 : Byte).toNat)) ∧
    ((1 : Word16).toNat = 1 ∧ (2 : Word16).toNat ≠ 1) ∧
    ((4 : Nat) < (5 : Word16).toNat ∧ (0 : Word16).toNat = 0 ∧ (4 : Word16).toNat ≤ 4 ∧ 0 < (4 : Word16).toNat ∧
      4 + 1 < (6 : Word16).toNat ∧ (5 : Word16).toNat ≤ 4 + 1) := by decide

theorem test_witness_LongPrefixFirstByte :
    let s := long (par (.span 4) .len0 0 0 [] [0x01])
    s.fsm = .rxParam ∧ s.env.xchg = .ok 0x01 ∧ s.curDesc = some (.span 4) ∧ Machine.tagReserved (RecvDesc.span 4).tag = false ∧
      s.cl.rmode = .long ∧ s.cur.stage = .len0 := by decide

/-- The first payload byte of each scalar that has more, and the last of each. -/
theorem test_witness_ScalarValue :
    (∀ x ∈ [(RecvDesc.u16be, 2), (.u16le, 2), (.u32be, 4), (.u32le, 4)],
      (par x.1 .payload 0 4 [] [9]).curDesc = some x.1 ∧ (par x.1 .payload 0 4 [] [9]).cur.i + 1 < x.2 ∧
      (par x.1 .payload 0 4 [] [9]).cur.stage = .payload ∧ (par x.1 .payload 0 4 [] [9]).env.xchg = .ok 9) ∧
    ∀ x ∈ [(RecvDesc.u8, ([] : List Byte)), (.u16be, [1]), (.u16le, [1]), (.u32be, [1, 2, 3]), (.u32le, [1, 2, 3])],
      (par x.1 .payload x.2.length 4 x.2 [9]).fsm = .rxParam ∧ (par x.1 .payload x.2.length 4 x.2 [9]).env.xchg = .ok 9 ∧
      (par x.1 .payload x.2.length 4 x.2 [9]).cur.stage = .payload ∧ (par x.1 .payload x.2.length 4 x.2 [9]).curDesc = some x.1 ∧
      (par x.1 .payload x.2.length 4 x.2 [9]).cur.held = x.2 ∧ (par x.1 .payload x.2.length 4 x.2 [9]).cur.i = x.2.length := by decide

/-- For SpanByteStored, SpanEnds and the first part of TerminatorFault: the first byte of two, the last of two, a terminator. -/
theorem test_witness_SpanPayload :
    (∀ r ∈ [RecvDesc.span 4, .nullterm 4],
      (par r .payload 0 2 [] [0x68]).fsm = .rxParam ∧ (par r .payload 0 2 [] [0x68]).env.xchg = .ok 0x68 ∧
      (par r .payload 0 2 [] [0x68]).cur.stage = .payload ∧
      (par r .payload 0 2 [] [0x68]).cur.i + 1 < (par r .payload 0 2 [] [0x68]).cur.len.toNat ∧
      (par r .payload 0 2 [] [0x68]).curDesc = some r ∧
      (par r .payload 1 2 [] [0x68]).cur.i + 1 = (par r .payload 1 2 [] [0x68]).cur.len.toNat) ∧
    (par (.nullterm 4) .payload 1 2 [] [0x00]).env.xchg = .ok NUL ∧ (0x21 : Byte) ≠ NUL ∧
    (par (.nullterm 4) .payload 1 2 [] [0x21]).env.xchg = .ok 0x21 := by decide

/-- For the second part of TerminatorFault: a step of the host's answers a next state. -/
theorem test_witness_halted :
    { idle with fsm := Fsm.halted, status := ⟨false, true, true, .terminator, 0x21⟩ }.fsm = .halted ∧
    (withHost { idle with fsm := .halted, status := ⟨false, true, true, .terminator, 0x21⟩ } [.writeReg .cmdw 1]).status.busy = false ∧
    Site.cmdw ∈ (Instr.resetPeer 0 0 .short .short).sites ∧
    answers (step (withHost { idle with fsm := .halted, status := ⟨false, true, true, .terminator, 0x21⟩ } [.readReg .status]))
      (fun t => t.hostLog == [.word 0x2186]) = true := by decide

/-- For ListCount: above the capacity, at it, and an empty list under both forms, its outer prefix 1 or not; for ListPrefix its descriptor. -/
theorem test_witness_ListCount :
    (par (.list 2 .u8) .count 0 0 [] [3]).cur.stage = .count ∧ (par (.list 2 .u8) .count 0 0 [] [3]).curDesc = some (.list 2 .u8) ∧
    2 < (3 : Byte).toNat ∧ (2 : Byte).toNat ≤ 2 ∧ 0 < (2 : Byte).toNat ∧ (0 : Byte).toNat = 0 ∧
    (par (.list 2 .u8) .count 0 0 [] [0]).build.listForm = .countOnly ∧
    (prefixed (par (.list 2 .u8) .count 0 1 [] [0])).cur.len = 1 ∧
    (prefixed (par (.list 2 .u8) .count 0 2 [] [0])).build.listForm = .prefixed ∧
    (prefixed (par (.list 2 .u8) .count 0 2 [] [0])).cur.len ≠ 1 := by decide

/-- An element left; a length that differs; the last element, with and without a length; the next parameter, and none. -/
theorem test_witness_ListAdvances :
    (⟨0, 2, none, 0⟩ : Frame).j + 1 < (⟨0, 2, none, 0⟩ : Frame).k ∧
    (¬ (⟨1, 2, some 5, 6⟩ : Frame).j + 1 < (⟨1, 2, some 5, 6⟩ : Frame).k ∧ (⟨1, 2, some 5, 6⟩ : Frame).expect = some 5 ∧
      (⟨1, 2, some 5, 6⟩ : Frame).consumed ≠ 5) ∧
    ((⟨1, 2, some 6, 6⟩ : Frame).expect = some 6 ∧ (⟨1, 2, none, 6⟩ : Frame).expect = none) ∧
    { rx .rxParam [] with rp := [.u8, .u8] }.cur.p + 1 < [RecvDesc.u8, .u8].length ∧
    (rx .rxParam []).rp.length ≤ (rx .rxParam []).cur.p + 1 := by decide

theorem test_witness_UnitsReceived :
    let s := long (par (.nullterm 4) .len0 0 0 [] [0x00])
    let s1 := long (par (.nullterm 4) .len1 0 0 [0x00] [0x03])
    s.fsm = .rxParam ∧ s.curDesc = some (.nullterm 4) ∧ Machine.tagReserved (RecvDesc.nullterm 4).tag = false ∧
      s.env.xchg = .ok NUL ∧ s.cl.rmode = .long ∧ s.cur.stage = .len0 ∧
      s1.cl.rmode = .long ∧ s1.cur.stage = .len1 ∧ s1.cur.held = [0x00] ∧ s1.env.xchg = .ok 0x03 := by decide

/-- EN-20 and DE-31: a list of lists. -/
theorem test_witness_InverseLaw :
    let d := SendDesc.list 7 (.cons (.list 0 (.cons (.u8 1) .nil)) (.cons (.list 0 .nil) .nil))
    let s := par (.list 2 (.list 2 .u8)) .count 0 0 [] [0x02, 0x01, 0x01, 0x01, 0x00]
    s.hostq = [] ∧ s.fsm = .rxParam ∧ s.rp[s.cur.p]? = some (.list 2 (.list 2 .u8)) ∧ s.cur.stack = [] ∧ s.cur.i = 0 ∧
      s.cur.held = [] ∧ s.cur.stage = openStage s.build.listForm (some (.list 2 (.list 2 .u8))) ∧
      (∀ x ∈ s.dst, x.1.head? ≠ some s.cur.p) ∧ d.valid s.build.listForm s.cl.rmode = true ∧
      d.fitsIn (.list 2 (.list 2 .u8)) = true ∧
      s.env.xchgIn = (d.bytes s.build.listForm s.cl.rmode).map .ok ++ [] := by decide

/-- W1 and W2 in one EXECUTE: socket = 3 is sent, status = 1 is received. -/
theorem test_witness_ExecuteCompletes :
    let s : State := { withHost idle [.writeReg .cmdw (cmdwWord 0 0x20 0 .short .short 0x2)] with
      sp := [.u8 3], rp := [.u8],
      env := ⟨([0, 0, 0, 0, 0, 0] : List Byte).map .ok ++ ([0xE0, 0xA0, 0x01, 0x01, 0x01, 0xEE] : List Byte).map .ok ++ [],
        [.ok true, .ok true], [.ok, .ok, .ok, .ok], [], 0⟩ }
    s.hostq = [.writeReg .cmdw (cmdwWord 0 0x20 0 .short .short 0x2)] ∧ s.fsm ≠ .halted ∧ s.status.busy = false ∧
      s.spWritten = true ∧ s.rpWritten = true ∧ s.build.wv.waitNotReady = false ∧ 0 < s.build.scanCeiling ∧ (∀ d ∈ s.sp, d.valid s.build.listForm .short = true) ∧
      (∀ r ∈ s.rp, r.valid = true) ∧ s.rp.length ≤ 255 ∧
      ((SendDesc.u8 1).valid s.build.listForm .short = true ∧ (SendDesc.u8 1).fitsIn .u8 = true ∧ s.rp = [.u8]) ∧
      State.requestBytes { s with cl := ⟨0x2, .short, .short, 0x20⟩ } = [0xE0, 0x20, 0x01, 0x01, 0x03, 0xEE] ∧
      ([0xE0, 0xA0, 0x01, 0x01, 0x01, 0xEE] : List Byte) = [START, (0x20 : BitVec 7).zeroExtend 8 ||| REPLY_FLAG] ++
        (if s.build.wv.countByte then [BitVec.ofNat 8 s.rp.length] else []) ++
        [SendDesc.u8 1].flatMap (SendDesc.bytes s.build.listForm .short) ++ [END] ∧
      s.env.readyIn = .ok true :: .ok true :: [] ∧ s.env.writeIn = .ok :: .ok :: .ok :: .ok :: [] := by decide

/-- The shape hypothesis of ExecuteCompletes on the state of `test_witness_ExecuteCompletes`. -/
theorem test_witness_ExecuteCompletes_shape :
    List.Forall₂ (fun (d : SendDesc) r => d.valid .countOnly .short = true ∧ d.fitsIn r = true) [.u8 1] [.u8] :=
  .cons ⟨by decide, by decide⟩ .nil

/-- A state in the middle of a parameter: the second of two payload bytes of a span, its first byte stored. -/
def midSpan : State :=
  { par (.span 2) .payload 1 2 [] [0x69] with dst := [([0], .bytes [(0, 0x68)] none)] }

/-- For StepKeepsInv, StepKeepsSelect, StepKeepsCapacity and BlockNeverStops: the invariant holds in a state that an EXECUTE is in. -/
theorem test_witness_Inv : midSpan.Inv where
  flags := by decide
  errByte := by decide
  stores := by decide
  executing := by decide
  resetting := by decide
  phase := by decide
  pending := by decide
  scan := by decide
  sent := by decide
  cursor := fun _ => ⟨⟨.span 2, by decide, by decide, by decide⟩, by decide⟩
  dests := by decide
  unspec := by decide

theorem test_witness_WithinCapacity : midSpan.WithinCapacity := by
  intro x hx
  obtain rfl : x = ([0], .bytes [(0, 0x68)] none) := by simpa [midSpan] using hx
  exact ⟨0, [], .span 2, rfl, by decide, by decide⟩

/-- For BlockNeverStops: WAIT and a pause pending in such a state. -/
theorem test_witness_BlockNeverStops :
    (withHost midSpan [.wait]).hostq = .wait :: [] ∧ (withHost midSpan [.pause]).hostq = .pause :: [] ∧
    (withHost midSpan [.wait]).fsm ≠ .halted := by decide

/-- For StepKeepsSelect and NoExchangeWhileReleased: the step receives a byte. -/
theorem test_witness_SelectOk :
    midSpan.SelectOk ∧ midSpan.log.all (fun e => !e.selectFailed) = true ∧ midSpan.hostq = [] ∧ midSpan.fsm ≠ .halted ∧
    answers (step midSpan) (fun t => (t.log.drop midSpan.log.length).any Event.isXchg) = true := by
  refine ⟨fun _ _ => ⟨by decide, by decide⟩, by decide, by decide, by decide, by decide⟩

/-- For WhatNoStepChanges: a step and a block step that answer a next state. -/
theorem test_witness_steps :
    answers (step midSpan) (fun _ => true) = true ∧ answers (blockStep midSpan) (fun _ => true) = true := by decide

theorem test_witness_EndOfRunFinal :
    (good { idle with log := [.issue 1, .complete 2] }).endOfRun = true ∧ idle.endOfRun = true ∧
    (withHost (good idle) [.readReg .status, .wait, .send []]).endOfRun = true ∧
    answers (step (withHost (good idle) [.readReg .status, .wait])) (fun _ => true) = true ∧
    (withHost (good idle) [.readReg .status, .writeReg .cmdw 1]).endOfRun = false ∧
    { idle with fsm := Fsm.halted }.fsm = .halted ∧ { idle with fsm := Fsm.halted }.hostq = [] := by decide

/-- For PrefixAndAssembly, at the two maxima: W4. -/
theorem test_witness_lengths :
    lenBytes .short 255 = [0xFF] ∧ lenBytes .long 255 = [0x00, 0xFF] ∧ lenBytes .long 65535 = [0xFF, 0xFF] := by decide

/-- For RequestFrame: a pad of two bytes (TX-4). -/
theorem test_witness_RequestFrame :
    let s : State := { tx [.u8 3] 0 with build := { tb with wv := ⟨true, false, true⟩ } }
    s.build.wv.pad4 = true ∧ s.requestBytes = [0xE0, 0x20, 0x01, 0x01, 0x03, 0xEE, 0x00, 0x00] := by decide

end Sys2Proof.Tests
end

section
/-! Byte orders and length prefixes in arithmetic (00_scope.md R17, R21, 30_encoding.md R93, R94). -/

namespace Sys2Proof.Machine

open Sys2Proof.Config

/-! ### Splitting a word into bytes -/

/-- The `n` bits from bit `k` on are the quotient by `2 ^ k`. -/
theorem extractLsb'_eq_ofNat_div {w : Nat} (v : BitVec w) (k n : Nat) :
    v.extractLsb' k n = BitVec.ofNat n (v.toNat / 2 ^ k) := by
  rw [← Nat.shiftRight_eq_div_pow]
  rfl

theorem be16_eq_div (v : Word16) : be16 v = [BitVec.ofNat 8 (v.toNat / 256), BitVec.ofNat 8 v.toNat] := by
  simp only [be16, extractLsb'_eq_ofNat_div, Nat.reducePow, Nat.div_one]

/-! ### Joining bytes to a word -/

/-- A byte put above `k` bits that hold `n` adds `2 ^ k` times its value: no bit is lost and none overlaps. -/
theorem toNat_shiftLeft_or {w k n : Nat} {x : BitVec w} (b : Byte) (hx : x.toNat = n) (hn : n < 2 ^ k)
    (hw : 8 + k ≤ w) : ((b.zeroExtend w <<< k) ||| x).toNat = b.toNat * 2 ^ k + n := by
  have hfit : b.toNat <<< k < 2 ^ w := calc
    b.toNat <<< k = b.toNat * 2 ^ k := Nat.shiftLeft_eq ..
    _ < 2 ^ 8 * 2 ^ k := Nat.mul_lt_mul_of_pos_right b.isLt (Nat.two_pow_pos k)
    _ = 2 ^ (8 + k) := (Nat.pow_add ..).symm
    _ ≤ 2 ^ w := Nat.pow_le_pow_right Nat.two_pos hw
  have hb : (b.zeroExtend w).toNat = b.toNat := BitVec.toNat_setWidth_of_le (by omega)
  rw [BitVec.toNat_or, BitVec.toNat_shiftLeft, hb, Nat.mod_eq_of_lt hfit, hx,
    ← Nat.shiftLeft_add_eq_or_of_lt hn, Nat.shiftLeft_eq]

theorem join16_toNat (b0 b1 : Byte) : (join16 b0 b1).toNat = b0.toNat * 256 + b1.toNat :=
  have h1 : (b1.zeroExtend 16).toNat = b1.toNat := BitVec.toNat_setWidth_of_le (by decide)
  toNat_shiftLeft_or (k := 8) b0 h1 b1.isLt (by decide)

theorem join32_toNat (b0 b1 b2 b3 : Byte) :
    (join32 b0 b1 b2 b3).toNat = b0.toNat * 16777216 + b1.toNat * 65536 + b2.toNat * 256 + b3.toNat := by
  have h3 : (b3.zeroExtend 32).toNat = b3.toNat := BitVec.toNat_setWidth_of_le (by decide)
  have h2 := toNat_shiftLeft_or (k := 8) b2 h3 b3.isLt (by decide)
  have h1 := toNat_shiftLeft_or (k := 16) b1 h2 (by omega) (by decide)
  have h0 := toNat_shiftLeft_or (k := 24) b0 h1 (by omega) (by decide)
  rw [join32, BitVec.or_assoc, BitVec.or_assoc, h0]
  omega

theorem join16_eq_ofNat (b0 b1 : Byte) : join16 b0 b1 = BitVec.ofNat 16 (b0.toNat * 256 + b1.toNat) := by
  rw [← join16_toNat, BitVec.ofNat_toNat, BitVec.setWidth_eq]

theorem join32_eq_ofNat (b0 b1 b2 b3 : Byte) :
    join32 b0 b1 b2 b3 =
      BitVec.ofNat 32 (b0.toNat * 16777216 + b1.toNat * 65536 + b2.toNat * 256 + b3.toNat) := by
  rw [← join32_toNat, BitVec.ofNat_toNat, BitVec.setWidth_eq]

/-! ### Length prefixes -/

/-- In short mode the prefix is bits 7:0 of the length, whatever the length is. -/
theorem lenBytes_short (l : Nat) : lenBytes .short l = [BitVec.ofNat 8 l] :=
  congrArg (fun b => [b]) (BitVec.setWidth_ofNat_of_le (by decide : 8 ≤ 16) l)

theorem lenBytes_long {l : Nat} (hl : l ≤ 65535) :
    lenBytes .long l = [BitVec.ofNat 8 (l / 256), BitVec.ofNat 8 (l % 256)] := by
  have hv : (BitVec.ofNat 16 l).toNat = l := Nat.mod_eq_of_lt (by omega)
  have hlow : BitVec.ofNat 8 l = BitVec.ofNat 8 (l % 256) := BitVec.eq_of_toNat_eq (by simp)
  rw [lenBytes, be16_eq_div, hv, hlow]

/-- Settles O20: the prefixes are the quotient and the remainder of the length, and each scalar is its bytes joined in the tag's
order. -/
theorem prefixAndAssembly : Obligations.PrefixAndAssembly :=
  ⟨rfl, rfl, fun l _ => lenBytes_short l, fun _ => lenBytes_long, fun b0 b1 b2 b3 =>
    ⟨join16_toNat b0 b1, rfl, congrArg Leaf.u16 (join16_eq_ofNat b0 b1), congrArg Leaf.u16 (join16_eq_ofNat b1 b0),
      congrArg Leaf.u32 (join32_eq_ofNat b0 b1 b2 b3), congrArg Leaf.u32 (join32_eq_ofNat b3 b2 b1 b0)⟩⟩

end Sys2Proof.Machine
end

section
/-! The state after block reset (10_state.md R53) and the host's three registers (R42). -/

namespace Sys2Proof.Machine

/-! ### Reset -/

/-- No flag, the code OK (number 0) and no offending byte: every field of the word is 0 (10_state.md R43). -/
theorem State.reset_status_toWord : State.reset.status.toWord = 0x0000 := by decide

/-- Settles O5: `State.reset` writes out R53's table, and its STATUS fields make the word 0. -/
theorem resetValues : Obligations.ResetValues :=
  ⟨rfl, rfl, rfl, rfl, rfl, rfl, rfl, rfl, rfl, rfl, rfl, State.reset_status_toWord, rfl⟩

/-! ### Register accesses -/

/-- A pending register read lands at once: no state of the block delays it. -/
theorem step_readReg {s : State} {r : HostReg} {rest : List HostAct} (h : s.hostq = .readReg r :: rest) :
    step s = readReg r { s with hostq := rest } := by
  simp only [step, stepOnce, h]

theorem step_writeReg {s : State} {r : HostReg} {w : Word16} {rest : List HostAct}
    (h : s.hostq = .writeReg r w :: rest) : step s = writeReg r w { s with hostq := rest } := by
  simp only [step, stepOnce, h]

theorem readReg_cmdw (s : State) : readReg .cmdw s = .next (s.hostRead (.word 0)) := rfl

theorem readReg_status (s : State) : readReg .status s = .next (s.hostRead (.word s.status.toWord)) := rfl

/-- H6 kept: TERR answers its IoErr. -/
theorem readReg_terr {s : State} (h : s.status.code = .transport) :
    readReg .terr s = .next (s.hostRead (.ioErr s.terr)) := if_pos h

theorem writeReg_status (w : Word16) (s : State) : writeReg .status w s = .next s := rfl

theorem writeReg_terr (w : Word16) (s : State) : writeReg .terr w s = .next s := rfl

/-- Settles O9: each access lands at once, and what each register answers is its own lemma. -/
theorem hostRegisters : Obligations.HostRegisters := by
  refine ⟨rfl, rfl, rfl, fun s rest w => ⟨?readCmdw, ?writeCmdw, ?readStatus, ?readTerr, ?writeStatus, ?writeTerr⟩⟩
  case readCmdw => exact fun h => (step_readReg h).trans (readReg_cmdw _)
  case writeCmdw => exact fun h hbusy hduty => (step_writeReg h).trans (writeReg_cmdw hbusy hduty)
  case readStatus => exact fun h => (step_readReg h).trans (readReg_status _)
  case readTerr => exact fun h hcode => (step_readReg h).trans (readReg_terr hcode)
  case writeStatus => exact fun h => (step_writeReg h).trans (writeReg_status w _)
  case writeTerr => exact fun h => (step_writeReg h).trans (writeReg_terr w _)

end Sys2Proof.Machine
end

section
/-! The command word (30_encoding.md R80 to R82): its fields, its masks and what it decodes to. -/

namespace Sys2Proof

/-! ### The fields of a command word -/

theorem Mode.bit_ofBit (b : Bool) : (Mode.ofBit b).bit = BitVec.ofBool b := by cases b <;> rfl

theorem Mode.ofBit_bit (m : Mode) : Mode.ofBit (m.bit == 1#1) = m := by cases m <;> rfl

section
variable (rb : BitVec 1) (cmd : BitVec 7) (rsv : BitVec 2) (rmode smode : Mode) (op : BitVec 4)

@[simp] theorem cmdwOp_cmdwWord : cmdwOp (cmdwWord rb cmd rsv rmode smode op) = op :=
  BitVec.extractLsb'_append_eq_right

@[simp] theorem cmdwSmode_cmdwWord : cmdwSmode (cmdwWord rb cmd rsv rmode smode op) = smode := by
  rw [cmdwSmode, BitVec.getLsbD_eq_extractLsb', cmdwWord]
  simp (disch := decide) only [BitVec.extractLsb'_append_eq_of_le, BitVec.extractLsb'_append_eq_right, Nat.reduceSub,
    Mode.ofBit_bit]

@[simp] theorem cmdwRmode_cmdwWord : cmdwRmode (cmdwWord rb cmd rsv rmode smode op) = rmode := by
  rw [cmdwRmode, BitVec.getLsbD_eq_extractLsb', cmdwWord]
  simp (disch := decide) only [BitVec.extractLsb'_append_eq_of_le, BitVec.extractLsb'_append_eq_right, Nat.reduceSub,
    Mode.ofBit_bit]

@[simp] theorem cmdwRsv_cmdwWord : cmdwRsv (cmdwWord rb cmd rsv rmode smode op) = rsv := by
  simp (disch := decide) only [cmdwRsv, cmdwWord, BitVec.extractLsb'_append_eq_of_le, BitVec.extractLsb'_append_eq_right,
    Nat.reduceSub]

@[simp] theorem cmdwCmd_cmdwWord : cmdwCmd (cmdwWord rb cmd rsv rmode smode op) = cmd := by
  simp (disch := decide) only [cmdwCmd, cmdwWord, BitVec.extractLsb'_append_eq_of_le, BitVec.extractLsb'_append_eq_right,
    Nat.reduceSub]

end

/-- The one bit from bit `k` on. -/
theorem extractLsb'_one_eq_ofBool {n : Nat} (v : BitVec n) (k : Nat) : v.extractLsb' k 1 = BitVec.ofBool (v.getLsbD k) := by
  ext i hi
  simp [Nat.lt_one_iff.1 hi]

/-- RSV is bit 7 above bit 6. -/
theorem cmdwRsv_eq_append (w : Word16) : cmdwRsv w = w.extractLsb' 7 1 ++ w.extractLsb' 6 1 :=
  (BitVec.extractLsb'_append_extractLsb'_eq_extractLsb' (start₁ := 6) (len₁ := 1) rfl).symm

theorem cmdwRsv_eq_zero_iff (w : Word16) : cmdwRsv w = 0 ↔ w.getLsbD 6 = false ∧ w.getLsbD 7 = false := by
  rw [cmdwRsv_eq_append, extractLsb'_one_eq_ofBool, extractLsb'_one_eq_ofBool]
  cases w.getLsbD 6 <;> cases w.getLsbD 7 <;> decide

/-- A command word is its six fields: they overlap nowhere and leave no bit out (30_encoding.md R80). -/
theorem cmdwWord_fields (w : Word16) :
    cmdwWord (cmdwRb w) (cmdwCmd w) (cmdwRsv w) (cmdwRmode w) (cmdwSmode w) (cmdwOp w) = w := by
  simp only [cmdwWord, cmdwRb, cmdwCmd, cmdwRsv, cmdwRmode, cmdwSmode, cmdwOp, Mode.bit_ofBit, ← extractLsb'_one_eq_ofBool]
  simp (disch := decide) only [BitVec.extractLsb'_append_extractLsb'_eq_extractLsb']
  exact BitVec.extractLsb'_eq_self

/-- The mask keeps RSV and OP, and clears the other fields. -/
theorem and_mask_eq_cmdwWord (w : Word16) :
    w &&& 0x00CF = cmdwWord 0 0 (cmdwRsv w) .short .short (cmdwOp w) := by
  refine BitVec.eq_of_getLsbD_eq fun i hi => ?_
  simp only [cmdwWord, cmdwRsv, cmdwOp, BitVec.getLsbD_append, BitVec.getLsbD_and, BitVec.getLsbD_extractLsb', Mode.bit]
  interval_cases i <;> simp

/-- A masked word fixes RSV = 0 and OP, and nothing else. -/
theorem and_mask_eq_iff (w : Word16) (op : BitVec 4) :
    w &&& 0x00CF = cmdwWord 0 0 0 .short .short op ↔ cmdwRsv w = 0 ∧ cmdwOp w = op := by
  rw [and_mask_eq_cmdwWord]
  refine ⟨fun h => ?_, fun ⟨hrsv, hop⟩ => by rw [hrsv, hop]⟩
  exact ⟨by simpa using congrArg cmdwRsv h, by simpa using congrArg cmdwOp h⟩

/-- The mask of RESET_PEER (30_encoding.md R81). -/
theorem and_mask_eq_one_iff (w : Word16) : w &&& 0x00CF = 0x0001 ↔ cmdwRsv w = 0 ∧ cmdwOp w = 1 := and_mask_eq_iff w 1

/-- The mask of EXECUTE (30_encoding.md R81). -/
theorem and_mask_eq_two_iff (w : Word16) : w &&& 0x00CF = 0x0002 ↔ cmdwRsv w = 0 ∧ cmdwOp w = 2 := and_mask_eq_iff w 2

/-! ### Decoding a command word -/

/-- With RSV = 0 it is OP that decodes. -/
theorem decodeCmdw_of_rsv_zero {w : Word16} (h : cmdwRsv w = 0) :
    decodeCmdw w = decodeOp (cmdwRb w) (cmdwCmd w) (cmdwRmode w) (cmdwSmode w) (cmdwOp w) := by
  obtain ⟨h6, h7⟩ := (cmdwRsv_eq_zero_iff w).1 h
  simp only [decodeCmdw, h6, h7, Bool.false_eq_true, if_false]

theorem encode_decodeOp (rb : BitVec 1) (cmd : BitVec 7) (rmode smode : Mode) (op : BitVec 4) :
    encode (decodeOp rb cmd rmode smode op) = .cmdw (cmdwWord rb cmd 0 rmode smode op) := by
  obtain ⟨⟨n, hn⟩⟩ := op
  interval_cases n <;> rfl

/-- An instruction whose code word has the fields of `w` has the code word `w`. -/
theorem encode_eq_of_fields {i : Instr} {w : Word16} {rsv : BitVec 2}
    (hi : encode i = .cmdw (cmdwWord (cmdwRb w) (cmdwCmd w) rsv (cmdwRmode w) (cmdwSmode w) (cmdwOp w)))
    (hrsv : cmdwRsv w = rsv) : encode i = .cmdw w := by
  rw [hi, ← hrsv, cmdwWord_fields]

/-- Every CMDW value is the code word of what it decodes to. -/
theorem encode_decodeCmdw (w : Word16) : encode (decodeCmdw w) = .cmdw w := by
  have hrsv := cmdwRsv_eq_append w
  simp only [extractLsb'_one_eq_ofBool w 6] at hrsv
  unfold decodeCmdw
  split
  case isTrue h6 => exact encode_eq_of_fields rfl (by rw [hrsv, h6]; rfl)
  case isFalse h6 =>
    split
    case isTrue h7 => exact encode_eq_of_fields rfl (by rw [hrsv, extractLsb'_one_eq_ofBool, h7, Bool.eq_false_iff.2 h6]; rfl)
    case isFalse h7 =>
      refine encode_eq_of_fields (encode_decodeOp ..) ((cmdwRsv_eq_zero_iff w).2 ⟨?_, ?_⟩)
      · exact Bool.eq_false_iff.2 h6
      · exact Bool.eq_false_iff.2 h7

/-- What a word decodes to tells its RSV and OP. -/
theorem fields_of_decodeCmdw {w : Word16} {i : Instr} {rb : BitVec 1} {cmd : BitVec 7} {rsv : BitVec 2} {rmode smode : Mode}
    {op : BitVec 4} (h : decodeCmdw w = i) (hi : encode i = .cmdw (cmdwWord rb cmd rsv rmode smode op)) :
    cmdwRsv w = rsv ∧ cmdwOp w = op := by
  obtain rfl : w = cmdwWord rb cmd rsv rmode smode op := CodeWord.cmdw.inj <| calc
    CodeWord.cmdw w = encode (decodeCmdw w) := (encode_decodeCmdw w).symm
    _ = .cmdw (cmdwWord rb cmd rsv rmode smode op) := by rw [h, hi]
  exact ⟨cmdwRsv_cmdwWord .., cmdwOp_cmdwWord ..⟩

theorem decodeCmdw_eq_resetPeer_iff (w : Word16) :
    (∃ rb cmd rmode smode, decodeCmdw w = .resetPeer rb cmd rmode smode) ↔ cmdwRsv w = 0 ∧ cmdwOp w = 1 := by
  refine ⟨fun ⟨_, _, _, _, h⟩ => fields_of_decodeCmdw h rfl, fun ⟨hrsv, hop⟩ => ?_⟩
  exact ⟨_, _, _, _, by rw [decodeCmdw_of_rsv_zero hrsv, hop]; rfl⟩

theorem decodeCmdw_eq_execute_iff (w : Word16) :
    (∃ rb cmd rmode smode, decodeCmdw w = .execute rb cmd rmode smode) ↔ cmdwRsv w = 0 ∧ cmdwOp w = 2 := by
  refine ⟨fun ⟨_, _, _, _, h⟩ => fields_of_decodeCmdw h rfl, fun ⟨hrsv, hop⟩ => ?_⟩
  exact ⟨_, _, _, _, by rw [decodeCmdw_of_rsv_zero hrsv, hop]; rfl⟩

end Sys2Proof
end

section
/-! Every CMDW instruction is Issue of the operation that RSV and OP select (30_encoding.md R81, R82, 44_transaction.md R198). -/

namespace Sys2Proof.Machine

/-- The operation that RSV and OP select (30_encoding.md R81, R82). -/
def operationOf (rsv : BitVec 2) (op : BitVec 4) : State → State :=
  if rsv = 0 ∧ op = 1 then State.resetPeerOp
  else if rsv = 0 ∧ op = 2 then State.executeOp
  else State.illegal

/-- A row of CMDW that runs its fields' operation is Issue of its code word. -/
theorem issue_cmdwWord (rb : BitVec 1) (cmd : BitVec 7) (rsv : BitVec 2) (rmode smode : Mode) (op : BitVec 4) {w : Word16}
    {go : State → State} (hw : cmdwWord rb cmd rsv rmode smode op = w) (hgo : go = operationOf rsv op) (s : State) :
    issue (cmdwWord rb cmd rsv rmode smode op) (latchOf cmd rmode smode op) go s =
      issue w (latchOf (cmdwCmd w) (cmdwRmode w) (cmdwSmode w) (cmdwOp w)) (operationOf (cmdwRsv w) (cmdwOp w)) s := by
  subst hw hgo
  simp only [cmdwCmd_cmdwWord, cmdwRmode_cmdwWord, cmdwSmode_cmdwWord, cmdwOp_cmdwWord, cmdwRsv_cmdwWord]

/-- RSV with bit 6 set is not 0. -/
theorem append_one_ne_zero : ∀ v : BitVec 1, v ++ 1#1 ≠ 0#2 := by decide

/-- RSV with bit 7 set is not 0. -/
theorem one_append_ne_zero : ∀ v : BitVec 1, 1#1 ++ v ≠ 0#2 := by decide

/-- Issue(w), for all 18 rows of CMDW at once (44_transaction.md R198): CL takes the fields of the code word, and RSV and OP
select the operation. -/
theorem exec_of_encode_cmdw {i : Instr} {w : Word16} (h : encode i = .cmdw w) (s : State) :
    exec i s =
      issue w (latchOf (cmdwCmd w) (cmdwRmode w) (cmdwSmode w) (cmdwOp w)) (operationOf (cmdwRsv w) (cmdwOp w)) s := by
  cases i
  -- the rows of the other media have no CMDW code word
  all_goals cases h
  all_goals
    refine issue_cmdwWord _ _ _ _ _ _ rfl ?_ s
    simp [operationOf, append_one_ne_zero, one_append_ne_zero]

/-- An ILLEGAL_COMMAND completes at its issue: LOG gains ISSUE and COMPLETE only (44_transaction.md R197). -/
theorem State.latched_illegal_log (s : State) (w : Word16) (cl : CmdLatch) :
    (s.latched w cl).illegal.log = s.log ++ [.issue w, .complete (s.latched w cl).illegal.status.toWord] := by
  simp [State.illegal]

/-- Settles O3: both masks and both decodings say RSV = 0 and the OP; with neither, the operation is the illegal one. -/
theorem cmdwMasks : Obligations.CmdwMasks := by
  intro w
  simp only [ne_eq, and_mask_eq_one_iff, and_mask_eq_two_iff]
  refine ⟨(decodeCmdw_eq_resetPeer_iff w).symm, (decodeCmdw_eq_execute_iff w).symm, fun h1 h2 s hfsm hbusy => ?_⟩
  have hop : operationOf (cmdwRsv w) (cmdwOp w) = State.illegal := (if_neg h1).trans (if_neg h2)
  have hexec := exec_of_encode_cmdw (encode_decodeCmdw w) s
  rw [hop, issue_taken _ _ _ hfsm hbusy] at hexec
  exact ⟨_, hexec, rfl, rfl, State.latched_illegal_log ..⟩

end Sys2Proof.Machine
end

section
/-! The issue check meets every reserved tag (30_encoding.md R85, 42_param_encode.md R161, 43_param_decode.md R181). -/

namespace Sys2Proof.Machine

open Sys2Proof.Config

/-- A reserved tag is no other tag. -/
theorem beq_eq_false_of_tagReserved {t u : BitVec 4} (ht : tagReserved t = true) (hu : tagReserved u = false) : (t == u) = false :=
  beq_eq_false_iff_ne.2 fun h => by simp [h, hu] at ht

mutual
/-- No reserved tag stands in a valid send descriptor. -/
theorem SendDesc.holdsTag_of_valid {t : BitVec 4} (ht : tagReserved t = true) {lf : ListForm} {m : Mode} :
    ∀ {d : SendDesc}, d.valid lf m = true → d.holdsTag t = false
  | .u8 _, _ | .u16be _, _ | .u16le _, _ | .u32be _, _ | .u32le _, _ | .span _, _ | .nullterm _, _ =>
    beq_eq_false_of_tagReserved ht rfl
  | .list et elems, h => by
    simp only [SendDesc.valid, Bool.and_eq_true, Bool.not_eq_true'] at h
    obtain ⟨⟨⟨het, _⟩, helems⟩, _⟩ := h
    simp only [SendDesc.holdsTag, Bool.or_eq_false_iff]
    exact ⟨⟨beq_eq_false_of_tagReserved ht rfl, beq_eq_false_of_tagReserved ht het⟩, SendElems.holdsTag_of_valid ht helems⟩
theorem SendElems.holdsTag_of_valid {t : BitVec 4} (ht : tagReserved t = true) {lf : ListForm} {m : Mode} {et : BitVec 4} :
    ∀ {es : SendElems}, es.valid lf m et = true → es.holdsTag t = false
  | .nil, _ => rfl
  | .cons d rest, h => by
    simp only [SendElems.valid, Bool.and_eq_true] at h
    obtain ⟨⟨_, hd⟩, hrest⟩ := h
    simp only [SendElems.holdsTag, Bool.or_eq_false_iff]
    exact ⟨SendDesc.holdsTag_of_valid ht hd, SendElems.holdsTag_of_valid ht hrest⟩
end

/-- No reserved tag stands in a valid receive descriptor. -/
theorem RecvDesc.holdsTag_of_valid {t : BitVec 4} (ht : tagReserved t = true) :
    ∀ {r : RecvDesc}, r.valid = true → r.holdsTag t = false
  | .u8, _ | .u16be, _ | .u16le, _ | .u32be, _ | .u32le, _ | .span _, _ | .nullterm _, _ =>
    beq_eq_false_of_tagReserved ht rfl
  | .list _ ed, h => by
    simp only [RecvDesc.valid, Bool.and_eq_true] at h
    simp only [RecvDesc.holdsTag, Bool.or_eq_false_iff]
    exact ⟨beq_eq_false_of_tagReserved ht rfl, RecvDesc.holdsTag_of_valid ht h.2⟩

theorem State.holdsTag_of_issueCheck {t : BitVec 4} (ht : tagReserved t = true) {s : State} (h : s.issueCheck = true) :
    s.holdsTag t = false := by
  simp only [State.issueCheck, Bool.and_eq_true, List.all_eq_true] at h
  obtain ⟨hsp, hrp⟩ := h
  simp only [State.holdsTag, Bool.or_eq_false_iff, List.any_eq_false, Bool.not_eq_true]
  exact ⟨fun d hd => SendDesc.holdsTag_of_valid ht (hsp d hd), fun r hr => RecvDesc.holdsTag_of_valid ht (hrp r hr)⟩

/-- EXECUTE with a reserved tag in a store fails its issue check. -/
theorem State.executeOp_of_holdsTag {t : BitVec 4} (ht : tagReserved t = true) {s : State} (h : s.holdsTag t = true) :
    s.executeOp = s.illegal :=
  if_neg fun hcheck => by simp [State.holdsTag_of_issueCheck ht hcheck] at h

theorem tagReserved_one_append : ∀ t : BitVec 3, tagReserved ((1 : BitVec 1) ++ t) = true := by decide

/-- Settles O19: a valid store holds no reserved tag, by induction over the descriptors, so the issue check fails. -/
theorem reservedTagRejected : Obligations.ReservedTagRejected := by
  intro s t rb cmd rm sm htag hfsm hbusy
  have hop (w : Word16) (cl : CmdLatch) : (s.latched w cl).executeOp = (s.latched w cl).illegal :=
    State.executeOp_of_holdsTag (tagReserved_one_append t) htag
  have hexec : exec (.execute rb cmd rm sm) s = _ := issue_taken _ _ State.executeOp hfsm hbusy
  rw [hop] at hexec
  exact ⟨_, _, rfl, hexec, rfl, rfl, rfl, rfl, rfl, rfl, State.latched_illegal_log ..⟩

end Sys2Proof.Machine
end

section
/-! The bytes of the send parameters and of the request frame (30_encoding.md R86 to R96, 42_param_encode.md R150 to R160). -/

namespace Sys2Proof.Machine

open Sys2Proof.Config

/-! ### Byte orders -/

theorem le16_eq_div (v : Word16) : le16 v = [BitVec.ofNat 8 v.toNat, BitVec.ofNat 8 (v.toNat / 256)] := by
  simp only [le16, extractLsb'_eq_ofNat_div, Nat.reducePow, Nat.div_one]

theorem be32_eq_div (v : Word32) :
    be32 v = [BitVec.ofNat 8 (v.toNat / 16777216), BitVec.ofNat 8 (v.toNat / 65536), BitVec.ofNat 8 (v.toNat / 256),
      BitVec.ofNat 8 v.toNat] := by
  simp only [be32, extractLsb'_eq_ofNat_div, Nat.reducePow, Nat.div_one]

theorem le32_eq_div (v : Word32) :
    le32 v = [BitVec.ofNat 8 v.toNat, BitVec.ofNat 8 (v.toNat / 256), BitVec.ofNat 8 (v.toNat / 65536),
      BitVec.ofNat 8 (v.toNat / 16777216)] := by
  simp only [le32, extractLsb'_eq_ofNat_div, Nat.reducePow, Nat.div_one]

/-! ### The bytes of each tag -/

section
variable (lf : ListForm) (m : Mode)

@[simp] theorem SendDesc.bytes_u8 (v : Byte) : (SendDesc.u8 v).bytes lf m = encU8 v m := named_bytes ..
@[simp] theorem SendDesc.bytes_u16be (v : Word16) : (SendDesc.u16be v).bytes lf m = encU16BE v m := named_bytes ..
@[simp] theorem SendDesc.bytes_u16le (v : Word16) : (SendDesc.u16le v).bytes lf m = encU16LE v m := named_bytes ..
@[simp] theorem SendDesc.bytes_u32be (v : Word32) : (SendDesc.u32be v).bytes lf m = encU32BE v m := named_bytes ..
@[simp] theorem SendDesc.bytes_u32le (v : Word32) : (SendDesc.u32le v).bytes lf m = encU32LE v m := named_bytes ..
@[simp] theorem SendDesc.bytes_span (d : List Byte) : (SendDesc.span d).bytes lf m = encSpan d m := named_bytes ..
@[simp] theorem SendDesc.bytes_nullterm (d : List Byte) : (SendDesc.nullterm d).bytes lf m = encNullterm d m :=
  named_bytes ..
@[simp] theorem SendDesc.bytes_reserved (t : BitVec 3) : (SendDesc.reserved t).bytes lf m = [] := rfl

/-- The elements send their bytes one after another (42_param_encode.md R159). -/
theorem SendElems.units_bytes : ∀ es : SendElems, (es.units lf m).map Prod.snd = es.toList.flatMap (SendDesc.bytes lf m)
  | .nil => rfl
  | .cons d rest => by
    rw [SendElems.units, List.map_append, SendElems.units_bytes rest]
    rfl

@[simp] theorem SendDesc.bytes_list (et : BitVec 4) (es : SendElems) :
    (SendDesc.list et es).bytes lf m =
      encListHead lf m es.length (es.encLen lf m) ++ es.toList.flatMap (SendDesc.bytes lf m) := by
  rw [SendDesc.bytes, SendDesc.units, List.map_append, named_bytes, SendElems.units_bytes]

/-- Settles O21: each tag's bytes by its own lemma, each scalar's bytes as quotients of its value. -/
theorem payloadBytes : Obligations.PayloadBytes := by
  intro lf m v8 v16 v32 d
  refine ⟨SendDesc.bytes_u8 .., ?u16be, ?u16le, ?u32be, ?u32le, SendDesc.bytes_span .., ?nullterm⟩
  case u16be => rw [SendDesc.bytes_u16be, encU16BE, be16_eq_div]
  case u16le => rw [SendDesc.bytes_u16le, encU16LE, le16_eq_div]
  case u32be => rw [SendDesc.bytes_u32be, encU32BE, be32_eq_div]
  case u32le => rw [SendDesc.bytes_u32le, encU32LE, le32_eq_div]
  case nullterm => rw [SendDesc.bytes_nullterm, encNullterm, List.append_assoc]

/-! ### The lengths of a sub-list -/

theorem SendElems.length_eq_toList : ∀ es : SendElems, es.length = es.toList.length
  | .nil => rfl
  | .cons _ rest => congrArg (· + 1) (SendElems.length_eq_toList rest)

mutual
/-- EncLen is the number of bytes sent (42_param_encode.md R160). -/
theorem SendDesc.bytes_length : ∀ d : SendDesc, (d.bytes lf m).length = d.encLen lf m
  | .u8 _ | .u16be _ | .u16le _ | .u32be _ | .u32le _ | .span _ | .nullterm _ | .reserved _ => by
    simp [encU8, encU16BE, encU16LE, encU32BE, encU32LE, encSpan, encNullterm, be16, le16, be32, le32, SendDesc.encLen,
      Nat.add_assoc]
  | .list _ elems => by
    rw [SendDesc.bytes_list, List.length_append, SendElems.bytes_length elems]
    cases lf <;> simp [encListHead, SendDesc.encLen]
theorem SendElems.bytes_length : ∀ es : SendElems, (es.toList.flatMap (SendDesc.bytes lf m)).length = es.encLen lf m
  | .nil => rfl
  | .cons d rest => by
    rw [SendElems.toList, List.flatMap_cons, List.length_append, SendDesc.bytes_length d, SendElems.bytes_length rest,
      SendElems.encLen]
end

end

/-- Settles O22: the head of a sub-list counts its elements, and EncLen is the length of their bytes. -/
theorem listBytes : Obligations.ListBytes := by
  intro m et elems
  refine ⟨?countOnly, ?prefixed⟩
  case countOnly => rw [SendDesc.bytes_list, SendElems.length_eq_toList, encListHead]
  case prefixed => rw [SendDesc.bytes_list, SendElems.length_eq_toList, ← SendElems.bytes_length, encListHead]

/-! ### The request frame -/

/-- START, the command byte, the count byte, the parameters and END (30_encoding.md R86). -/
theorem State.requestUnits_bytes (s : State) :
    s.requestUnits.map Prod.snd =
      [START, s.cl.cmd.zeroExtend 8] ++ (if s.build.wv.countByte then [BitVec.ofNat 8 s.sp.length] else []) ++
        s.sp.flatMap (SendDesc.bytes s.build.listForm s.cl.smode) ++ [END] := by
  have hcount : (if s.build.wv.countByte then [(Instr.wireCount s.nsByte, s.nsByte)] else []).map Prod.snd =
      if s.build.wv.countByte then [BitVec.ofNat 8 s.sp.length] else [] := by
    split <;> rfl
  rw [State.requestUnits, List.map_append, List.map_append, List.map_append, hcount, List.map_flatMap]
  rfl

/-- The pad is what is missing to a multiple of 4 (30_encoding.md R96). -/
theorem add_pad_mod_four (n : Nat) : (n + (4 - n % 4) % 4) % 4 = 0 := by omega

/-- Settles O25: the body is the units' bytes, and the pad is as long as R132 counts it. -/
theorem requestFrame : Obligations.RequestFrame := by
  intro s
  refine ⟨(4 - (s.requestUnits.map Prod.snd).length % 4) % 4, Nat.mod_lt _ (by decide), ?frame, fun hpad => ?length⟩
  case frame =>
    rw [State.requestBytes, ← State.requestUnits_bytes]
    rfl
  case length =>
    rw [State.requestBytes, if_pos hpad, List.length_append, List.length_replicate]
    exact add_pad_mod_four _

end Sys2Proof.Machine
end

section
/-! Every byte of the request is sent by the operation it belongs to, with one exchange (40_handshake.md R111, 41_frame_codec.md R131,
R132, 42_param_encode.md R150). -/

namespace Sys2Proof.Machine

open Sys2Proof.Config

/-! ### What each operation of the request runs -/

/-- The tag rules that `EncodeParam` runs (42_param_encode.md R152 to R159). -/
def sendRules : List Instr := [.encU8, .encU16BE, .encU16LE, .encU32BE, .encU32LE, .encSpan, .encNullterm, .encList]

theorem exec_of_mem_sendRules {i : Instr} (h : i ∈ sendRules) (s : State) : ∃ mn, exec i s = sendAs i mn s := by
  simp only [sendRules, List.mem_cons, List.not_mem_nil, or_false] at h
  obtain rfl | rfl | rfl | rfl | rfl | rfl | rfl | rfl := h
  all_goals exact ⟨_, rfl⟩

/-- Every row of one wire byte is the wire unit of its code word. -/
theorem exec_of_encode_wire {i : Instr} {b : Byte} (h : encode i = .wire [b]) (s : State) :
    ∃ mn, exec i s = wireUnit b mn s := by
  cases i
  -- the rows of the other media, and the long prefix, have no code word of one wire byte
  all_goals cases h
  all_goals exact ⟨_, rfl⟩

/-! ### Which operation a byte of the request belongs to -/

theorem mem_named {u : Unit8} {i : Instr} {bs : List Byte} (h : u ∈ named i bs) : u.1 = i := by
  obtain ⟨_, _, rfl⟩ := List.mem_map.1 h
  rfl

mutual
theorem SendDesc.mem_units {lf : ListForm} {m : Mode} {u : Unit8} :
    ∀ {d : SendDesc}, u ∈ d.units lf m → u.1 ∈ sendRules
  | .u8 _, h | .u16be _, h | .u16le _, h | .u32be _, h | .u32le _, h | .span _, h | .nullterm _, h => by
    rw [mem_named h]
    decide
  | .list _ _, h => by
    obtain hhead | helems := List.mem_append.1 h
    · rw [mem_named hhead]
      decide
    · exact SendElems.mem_units helems
  | .reserved _, h => nomatch h
theorem SendElems.mem_units {lf : ListForm} {m : Mode} {u : Unit8} :
    ∀ {es : SendElems}, u ∈ es.units lf m → u.1 ∈ sendRules
  | .nil, h => nomatch h
  | .cons _ _, h => (List.mem_append.1 h).elim SendDesc.mem_units SendElems.mem_units
end

/-- A byte of the request is a tag rule's, or is itself the code word of a wire row. -/
def Unit8.Sent (u : Unit8) : Prop := u.1 ∈ sendRules ∨ encode u.1 = .wire [u.2]

/-- The command-identifier byte is the code word of WIRE.CMD_REQ: reply bit 0 (30_encoding.md R88). -/
theorem encode_wireCmdReq (s : State) : encode (.wireCmdReq s.cl.cmd) = .wire [s.cmdReq] := by
  rw [encode, State.cmdReq, BitVec.zeroExtend_eq_setWidth, BitVec.setWidth_eq_append (by decide)]
  rfl

theorem State.sent_of_mem_requestUnits {s : State} {u : Unit8} (h : u ∈ s.requestUnits) : u.Sent := by
  simp only [State.requestUnits, List.mem_append, List.mem_cons, List.not_mem_nil, or_false, List.mem_flatMap] at h
  obtain (((rfl | rfl) | hcount) | ⟨d, _, hd⟩) | rfl := h
  · exact .inr rfl
  · exact .inr (encode_wireCmdReq s)
  · split at hcount
    · obtain rfl := List.mem_singleton.1 hcount
      exact .inr rfl
    · nomatch hcount
  · exact .inl (SendDesc.mem_units hd)
  · exact .inr rfl

theorem State.sent_of_nextUnit {s : State} {u : Unit8} (h : s.nextUnit = some u) : u.Sent := by
  unfold State.nextUnit at h
  split at h
  case h_1 hu =>
    cases h
    exact State.sent_of_mem_requestUnits (List.mem_of_getElem? hu)
  case h_2 =>
    split at h
    case isTrue =>
      cases h
      exact .inr rfl
    case isFalse => nomatch h

/-! ### Sending the next byte -/

/-- The operation that the next byte of the request belongs to is one `SendByte` of that byte. -/
theorem exec_of_nextUnit {s : State} {i : Instr} {b : Byte} (hf : s.fsm = .tx) (hn : s.nextUnit = some (i, b)) :
    exec i s = .next (s.sendByte b) := by
  obtain hrule | hwire := State.sent_of_nextUnit hn
  · obtain ⟨mn, hexec⟩ := exec_of_mem_sendRules hrule s
    exact hexec.trans (sendAs_next.2 ⟨hf, b, hn, rfl⟩)
  · obtain ⟨mn, hexec⟩ := exec_of_encode_wire hwire s
    exact hexec.trans (wireUnit_tx hf hn)

/-- Settles O26: the operation runs `SendByte` of its byte, whose two outcomes are the exchange's. That the byte is the operation's
next one already says which operations these are. -/
theorem sendsNextByte : Obligations.SendsNextByte := by
  intro s b opc n i _ hf hn
  rw [exec_of_nextUnit hf hn]
  refine ⟨fun r hr => ?ok, fun e he => ?fail⟩
  case ok => rw [State.sendByte_ok b hr, hf]
  case fail => rw [State.sendByte_fail b he]

end Sys2Proof.Machine
end

section
/-! The request goes out byte by byte, as many as the frame has, and Release comes next (41_frame_codec.md R131 to R133). -/

namespace Sys2Proof.Machine

open Sys2Proof.Config

/-! ### The length of the frame -/

/-- START, the command byte, the count byte, EncLen of each parameter and END (42_param_encode.md R160). -/
theorem State.requestUnits_length (s : State) :
    s.requestUnits.length = 2 + (if s.build.wv.countByte then 1 else 0) +
      (s.sp.map (SendDesc.encLen s.build.listForm s.cl.smode)).sum + 1 := by
  rw [← List.length_map (f := Prod.snd), State.requestUnits_bytes]
  have hcount : (if s.build.wv.countByte then [BitVec.ofNat 8 s.sp.length] else []).length =
      if s.build.wv.countByte then 1 else 0 := by
    split <;> rfl
  have hlen : (fun d : SendDesc => (d.bytes s.build.listForm s.cl.smode).length) =
      SendDesc.encLen s.build.listForm s.cl.smode := funext fun d => SendDesc.bytes_length _ _ d
  simp only [List.length_append, List.length_flatMap, hcount, hlen, List.length_cons, List.length_nil]

theorem State.requestBytes_length (s : State) :
    s.requestBytes.length =
      s.requestUnits.length + if s.build.wv.pad4 then (4 - s.requestUnits.length % 4) % 4 else 0 := by
  rw [State.requestBytes, List.length_append, List.length_map]
  split
  · rw [List.length_replicate]
  · rfl

/-! ### The byte at an index of the frame -/

/-- TXN, the number of bytes sent modulo 4, says how far the pad is (41_frame_codec.md R132): no byte is left exactly at the
end of the frame. -/
theorem State.byteLeft_iff {s : State} {n : Nat} (hn : n ≤ s.requestBytes.length) :
    (n < s.requestUnits.length ∨ (s.build.wv.pad4 = true ∧ BitVec.ofNat 2 n ≠ 0)) ↔ n < s.requestBytes.length := by
  have htxn : BitVec.ofNat 2 n = 0 ↔ n % 4 = 0 := by
    rw [← BitVec.toNat_inj]
    rfl
  rw [State.requestBytes_length] at hn ⊢
  rw [ne_eq, htxn]
  cases hp : s.build.wv.pad4 with
  | false => simp
  | true =>
    rw [hp, if_pos rfl] at hn
    rw [if_pos rfl]
    simp only [true_and]
    omega

/-- With TXN in step with the byte index, the next unit is the frame's byte at that index. -/
theorem State.nextUnit_of_lt {s : State} (htxn : s.txn = BitVec.ofNat 2 s.txIdx) (hlt : s.txIdx < s.requestBytes.length) :
    ∃ i, s.nextUnit = some (i, s.requestBytes[s.txIdx]) := by
  have hleft := (State.byteLeft_iff hlt.le).2 hlt
  by_cases hbody : s.txIdx < s.requestUnits.length
  · refine ⟨(s.requestUnits[s.txIdx]).1, ?_⟩
    simp only [State.nextUnit, List.getElem?_eq_getElem hbody]
    simp [State.requestBytes, hbody]
  · obtain ⟨hpad, hnz⟩ := hleft.resolve_left hbody
    refine ⟨.wirePad, ?_⟩
    have hcond : s.build.wv.pad4 = true ∧ s.txn ≠ 0 := ⟨hpad, htxn ▸ hnz⟩
    simp only [State.nextUnit, List.getElem?_eq_none (Nat.le_of_not_lt hbody), if_pos hcond]
    simp [State.requestBytes, List.getElem_append, hbody, hpad]

/-! ### Sending the frame -/

theorem step_tx {s : State} {i : Instr} {b : Byte} (hq : s.hostq = []) (hf : s.fsm = .tx)
    (hn : s.nextUnit = some (i, b)) : step s = .next (s.sendByte b) := by
  simp only [step_block hq, blockStep, hf, requestStep, hn]
  exact exec_of_nextUnit hf hn

/-- The block is in the request body, all bytes below the index sent, or has just sent the last one. -/
structure State.SentTo (s : State) : Prop where
  noHost : s.hostq = []
  txn_eq : s.txn = BitVec.ofNat 2 s.txIdx
  fsm_eq : s.fsm = if s.txIdx < s.requestBytes.length then .tx else .rel

/-- The next byte of the frame goes out with one exchange, whatever the peer answers. -/
theorem State.SentTo.step_eq {s : State} (h : s.SentTo) {r : Byte} {ds : List XchgDraw}
    (hlt : s.txIdx < s.requestBytes.length) (hx : s.env.xchgIn = .ok r :: ds) :
    step s = .next { s with
      txn := BitVec.ofNat 2 (s.txIdx + 1)
      txIdx := s.txIdx + 1
      env := { s.env with xchgIn := ds }
      fsm := if s.txIdx + 1 < s.requestBytes.length then .tx else .rel
      log := s.log ++ [.xchg s.requestBytes[s.txIdx] (.ok r)] } := by
  have hf : s.fsm = .tx := h.fsm_eq.trans (if_pos hlt)
  have htxn : s.txn + 1 = BitVec.ofNat 2 (s.txIdx + 1) := by
    rw [h.txn_eq, BitVec.ofNat_add]
    rfl
  obtain ⟨hdraw, hdrop⟩ := Env.xchg_cons hx
  obtain ⟨i, hn⟩ := State.nextUnit_of_lt h.txn_eq hlt
  rw [step_tx h.noHost hf hn, State.sendByte_ok _ hdraw, htxn, hdrop, hf]
  simp only [State.byteLeft_iff (Nat.succ_le_of_lt hlt)]

/-- The rest of the frame goes out, one answer of the peer for each byte. -/
theorem State.SentTo.run_rest {more : List XchgDraw} :
    ∀ {rs : List Byte} {s : State}, s.SentTo → s.txIdx + rs.length = s.requestBytes.length →
      s.env.xchgIn = rs.map .ok ++ more →
      Sys2Proof.core.run rs.length s = .next { s with
        txn := BitVec.ofNat 2 s.requestBytes.length
        txIdx := s.requestBytes.length
        env := { s.env with xchgIn := more }
        fsm := .rel
        log := s.log ++ (s.requestBytes.drop s.txIdx).zipWith (fun b r => .xchg b (.ok r)) rs }
  | [], s, h, hlen, hx => by
    have hend : s.txIdx = s.requestBytes.length := hlen
    have hf : s.fsm = .rel := h.fsm_eq.trans (if_neg hend.not_lt)
    have hmore : s.env.xchgIn = more := hx
    rw [List.zipWith_nil_right, List.append_nil, ← hend, ← h.txn_eq, ← hf, ← hmore]
    rfl
  | r :: rs, s, h, hlen, hx => by
    have hlt : s.txIdx < s.requestBytes.length := by
      rw [← hlen, List.length_cons]
      omega
    rw [List.drop_eq_getElem_cons hlt, List.zipWith_cons_cons, List.append_cons, List.length_cons,
      run_next _ (h.step_eq hlt hx)]
    exact State.SentTo.run_rest ⟨h.noHost, rfl, rfl⟩ ((Nat.succ_add_eq_add_succ ..).trans hlen) rfl

/-- Settles O28: the number is the units' and the pad's, and from TXN and index 0 the whole frame is the rest of it. -/
theorem requestSent : Obligations.RequestSent := by
  refine ⟨fun s n hn => ?number, fun s rs more hq hf hidx htxn hlen hx => ?sent⟩
  case number => rw [State.requestBytes_length, State.requestUnits_length, ← hn]
  case sent =>
    have hpos : s.txIdx < s.requestBytes.length := by
      rw [hidx, State.requestBytes_length, State.requestUnits_length]
      omega
    have hsent : s.SentTo := ⟨hq, hidx ▸ htxn, hf.trans (if_pos hpos).symm⟩
    have hrun := hsent.run_rest (by rw [hidx, hlen, Nat.zero_add]) hx
    rwa [hlen, hidx, List.drop_zero] at hrun

end Sys2Proof.Machine
end

section
/-! The reply outside the parameters, read byte by byte: the scan and the END check (41_frame_codec.md R135, R136, R139). -/

namespace Sys2Proof.Machine

open Sys2Proof.Config

/-! ### A byte that an exchange brings -/

/-- Outside the request phase every row of one wire byte receives its code word. -/
theorem exec_receives_of_encode_wire {i : Instr} {b : Byte} {s : State} (h : encode i = .wire [b]) (hf : s.fsm ≠ .tx) :
    ∃ mn, exec i s = receive b mn s := by
  obtain ⟨mn, hexec⟩ := exec_of_encode_wire h s
  exact ⟨mn, hexec.trans (wireUnit_rx hf)⟩

theorem receive_rxScan {s : State} (b : Byte) (mn : String) (hf : s.fsm = .rxScan) :
    receive b mn s = .next ((s.exchanged s.build.rxFill (.ok b)).scanByte b) := by
  simp only [receive, hf]

theorem receive_rxEnd {s : State} (b : Byte) (mn : String) (hf : s.fsm = .rxEnd) :
    receive b mn s = .next ((s.exchanged s.build.rxFill (.ok b)).checkEnd b) := by
  simp only [receive, hf]

/-- A failed read outside the parameters: TRANSPORT, and Release comes next (40_handshake.md R118). -/
theorem replyStep_fail {s : State} {e : IoErr} (site : Site) (h : s.env.xchg = .fail e) :
    replyStep site s = .next { s with err := some (.transport e), fsm := .rel, env := s.env.dropXchg,
                                      log := s.log ++ [.xchg s.build.rxFill (.fail e)] } := by
  simp only [replyStep, h]
  rfl

/-- A byte that stands for no row at its site is received all the same (30_encoding.md R97). -/
theorem replyStep_of_decode_error {s : State} {site : Site} {b : Byte} {x : Reject} (h : s.env.xchg = .ok b)
    (hd : decode site (.wire [b]) = .error x) : replyStep site s = receive b "WIRE" s := by
  simp only [replyStep, h, hd]

/-! ### The scan -/

theorem decode_scan (b : Byte) : decode .scan (.wire [b]) = .ok (decodeScan b) := rfl

theorem decodeScan_other {b : Byte} (hs : b ≠ START) (he : b ≠ ERR) : decodeScan b = .wireSkip b := by
  rw [decodeScan, if_neg hs, if_neg he]

/-- In the scan every row of one wire byte is that byte, judged by the sentinel detector. -/
theorem exec_rxScan {i : Instr} {b : Byte} {s : State} (h : encode i = .wire [b]) (hf : s.fsm = .rxScan) :
    exec i s = .next ((s.exchanged s.build.rxFill (.ok b)).scanByte b) := by
  obtain ⟨mn, hexec⟩ := exec_receives_of_encode_wire (s := s) h (by simp [hf])
  exact hexec.trans (receive_rxScan b mn hf)

theorem State.scanByte_start (s : State) : s.scanByte START = s.scanFound := rfl

theorem State.scanByte_err (s : State) : s.scanByte ERR = s.scanErr := rfl

theorem State.scanByte_other {s : State} {b : Byte} (hs : b ≠ START) (he : b ≠ ERR) : s.scanByte b = s.scanSkip := by
  rw [State.scanByte, if_neg hs, if_neg he]

theorem State.scanSkip_below {s : State} (h : s.scnt + 1 ≠ s.build.scanCeiling) :
    s.scanSkip = { s with scnt := s.scnt + 1 } := if_neg h

theorem State.scanSkip_ceiling {s : State} (h : s.scnt + 1 = s.build.scanCeiling) :
    s.scanSkip = { s with scnt := s.scnt + 1, err := some .timeout, fsm := .rel } := if_pos h

/-- Settles O33: the detector tests START, then ERR; the scan judges the byte alike, and a skipped one by the ceiling. -/
theorem scanUnits : Obligations.ScanUnits := by
  intro s hf
  refine ⟨rfl, rfl, fun b hs he => ?decode, ?start, ?err, fun b hs he => ?skip⟩
  case decode => rw [decode_scan, decodeScan_other hs he]
  case start =>
    rw [exec_rxScan rfl hf, State.scanByte_start]
    rfl
  case err =>
    rw [exec_rxScan rfl hf, State.scanByte_err]
    rfl
  case skip =>
    rw [exec_rxScan rfl hf, State.scanByte_other hs he]
    refine ⟨fun hbelow => ?below, fun hlast => ?ceiling⟩
    case below =>
      rw [State.scanSkip_below (s := s.exchanged _ _) hbelow]
      rfl
    case ceiling =>
      rw [State.scanSkip_ceiling (s := s.exchanged _ _) hlast]
      rfl

/-! ### The END check -/

theorem step_rxEnd {s : State} (hq : s.hostq = []) (hf : s.fsm = .rxEnd) : step s = replyStep .endMark s := by
  simp only [step_block hq, blockStep, hf]

theorem decode_endMark_other {b : Byte} (h : b ≠ END) : decode .endMark (.wire [b]) = .error (.notEnd b) := if_neg h

theorem State.checkEnd_other {s : State} {b : Byte} (h : b ≠ END) :
    s.checkEnd b = { s with err := some (.unexpectedByte b), fsm := .rel } := if_pos h

/-- Settles O39: END is WIRE.END; any other byte stands for no row there and is received all the same. -/
theorem endCheck : Obligations.EndCheck := by
  intro s hf
  refine ⟨fun e hq he => ?fail, ?endMark, fun b hb hq hx => ?other⟩
  case fail => rw [step_rxEnd hq hf, replyStep_fail _ he]
  case endMark =>
    obtain ⟨mn, hexec⟩ := exec_receives_of_encode_wire (i := .wireEnd) (s := s) rfl (by simp [hf])
    exact hexec.trans (receive_rxEnd END mn hf)
  case other =>
    rw [step_rxEnd hq hf, replyStep_of_decode_error hx (decode_endMark_other hb), receive_rxEnd _ _ hf,
      State.checkEnd_other hb]
    rfl

end Sys2Proof.Machine
end

section
/-! The length of a send descriptor and the two validity checks (42_param_encode.md R160, R161, 43_param_decode.md R181). -/

namespace Sys2Proof.Machine

open Sys2Proof.Config

/-! ### The length of a sub-list -/

/-- The elements' lengths add up. -/
theorem SendElems.encLen_eq_sum (lf : ListForm) (m : Mode) :
    ∀ es : SendElems, es.encLen lf m = (es.toList.map (SendDesc.encLen lf m)).sum
  | .nil => rfl
  | .cons d rest => by
    rw [SendElems.encLen, SendElems.encLen_eq_sum lf m rest, SendElems.toList, List.map_cons, List.sum_cons]

/-- Under either list form a sub-list is one count byte and its elements; only PREFIXED sends a prefix (R159). -/
theorem SendDesc.encLen_list (lf : ListForm) (m : Mode) (et : BitVec 4) (es : SendElems) :
    (SendDesc.list et es).encLen lf m =
      (if lf = .prefixed then lenWidth m else 0) + 1 + (es.toList.map (SendDesc.encLen lf m)).sum := by
  rw [← SendElems.encLen_eq_sum]
  cases lf with
  | countOnly => rw [if_neg nofun, Nat.zero_add, SendDesc.encLen]
  | prefixed => rw [if_pos rfl, SendDesc.encLen]

/-- Settles O23: the bytes are counted by induction over the descriptor; the table is EncLen's own, a sub-list's sum included. -/
theorem encLenCounts : Obligations.EncLenCounts := by
  intro lf m d
  refine ⟨SendDesc.bytes_length lf m d, ?table⟩
  cases d with
  | list et elems => exact SendDesc.encLen_list lf m et elems
  | _ => rfl

/-! ### Valid descriptors -/

/-- The reserved tags are 0x8 to 0xF (30_encoding.md R84). -/
theorem tagReserved_eq_false_iff : ∀ {t : BitVec 4}, tagReserved t = false ↔ t.toNat < 8 := by decide

/-- The elements are checked one by one, each against the list's element tag. -/
theorem SendElems.valid_iff {lf : ListForm} {m : Mode} {et : BitVec 4} :
    ∀ {es : SendElems}, es.valid lf m et = true ↔ ∀ e ∈ es.toList, e.tag = et ∧ e.valid lf m = true
  | .nil => by simp [SendElems.valid, SendElems.toList]
  | .cons d rest => by
    simp only [SendElems.valid, SendElems.toList, Bool.and_eq_true, beq_iff_eq, List.forall_mem_cons,
      SendElems.valid_iff (es := rest)]

/-- A sub-list is valid by its element tag, its count, its elements and, under PREFIXED, its length. -/
theorem SendDesc.valid_list_iff {lf : ListForm} {m : Mode} {et : BitVec 4} {es : SendElems} :
    (SendDesc.list et es).valid lf m = true ↔
      et.toNat < 8 ∧ es.toList.length ≤ 255 ∧ (∀ e ∈ es.toList, e.tag = et ∧ e.valid lf m = true) ∧
        (lf = .prefixed → 1 + (es.toList.map (SendDesc.encLen lf m)).sum ≤ maxLen m) := by
  rw [← tagReserved_eq_false_iff, ← SendElems.valid_iff, ← SendElems.length_eq_toList, ← SendElems.encLen_eq_sum]
  cases lf <;> simp [SendDesc.valid, and_assoc]

/-- Settles O24: a sub-list by `SendDesc.valid_list_iff`, a span by its bound, a scalar always and a reserved tag never. -/
theorem validityChecks : Obligations.ValidityChecks := by
  refine ⟨fun lf m d => ?send, fun r => ?recv⟩
  case send =>
    cases d with
    | span | nullterm => exact decide_eq_true_iff
    | list => exact SendDesc.valid_list_iff
    | reserved => exact Bool.false_eq_true.to_iff
    | u8 | u16be | u16le | u32be | u32le => exact iff_of_true rfl trivial
  case recv =>
    cases r with
    | span | nullterm => exact decide_eq_true_iff
    | list => rw [RecvDesc.valid, Bool.and_eq_true, decide_eq_true_iff]
    | reserved => exact Bool.false_eq_true.to_iff
    | u8 | u16be | u16le | u32be | u32le => exact iff_of_true rfl trivial

end Sys2Proof.Machine
end

section
/-! Bytes read inside a receive parameter: one byte, an item's end, and length prefixes (43_param_decode.md R170, R171, 10_state.md R41). -/

namespace Sys2Proof.Machine

open Sys2Proof.Config

/-! ### Runs -/

/-- A run of `a + b` steps is a run of `a` steps and then one of `b`. -/
theorem run_add {a b : Nat} {t : State} : ∀ {s : State}, Sys2Proof.core.run a s = .next t →
    Sys2Proof.core.run (a + b) s = Sys2Proof.core.run b t := by
  induction a with
  | zero =>
    intro s h
    cases h
    rw [Nat.zero_add]
  | succ a ih =>
    intro s h
    rw [Nat.succ_add]
    simp only [Host.Core.run] at h ⊢
    cases hstep : Sys2Proof.core.step s with
    | next s' =>
      rw [hstep] at h
      exact ih h
    | fault | refused =>
      rw [hstep] at h
      cases h

/-! ### The state after bytes are read -/

/-- A sub-list's position with `n` more bytes counted (10_state.md R41). -/
def Frame.counted (n : Nat) (f : Frame) : Frame := { f with consumed := f.consumed + n }

theorem map_counted_zero (stack : List Frame) : stack.map (Frame.counted 0) = stack := List.map_id _

theorem map_counted_counted (a b : Nat) (stack : List Frame) :
    (stack.map (Frame.counted a)).map (Frame.counted b) = stack.map (Frame.counted (a + b)) := by
  rw [List.map_map]
  exact List.map_congr_left fun f _ => congrArg (Frame.mk f.j f.k f.expect) (Nat.add_assoc ..)

@[simp] theorem slotOf_counted (p n : Nat) (stack : List Frame) :
    slotOf p (stack.map (Frame.counted n)) = slotOf p stack :=
  slotOf_congr p (by simp [Function.comp_def, Frame.counted])

/-- The cursor with `n` more bytes counted by the enclosing sub-lists. -/
def Cursor.counted (n : Nat) (c : Cursor) : Cursor := { c with stack := c.stack.map (Frame.counted n) }

/-- Cursor `c'` is at the same item as `c`, `n` bytes later. -/
structure Cursor.Moved (c : Cursor) (n : Nat) (c' : Cursor) : Prop where
  p_eq : c'.p = c.p
  stack_eq : c'.stack = c.stack.map (Frame.counted n)

theorem Cursor.moved_counted (c : Cursor) (n : Nat) : c.Moved n (c.counted n) := ⟨rfl, rfl⟩

theorem Cursor.moved_zero (c : Cursor) : c.Moved 0 c := ⟨rfl, (map_counted_zero _).symm⟩

theorem Cursor.Moved.trans {c c' c'' : Cursor} {a b : Nat} (h : c.Moved a c') (h' : c'.Moved b c'') :
    c.Moved (a + b) c'' :=
  ⟨h'.p_eq.trans h.p_eq, by rw [h'.stack_eq, h.stack_eq, map_counted_counted]⟩

/-- The state once the bytes `bs` have been read, with the cursor and the destinations given. -/
def State.readBytes (s : State) (bs : List Byte) (c : Cursor) (d : Dests) : State :=
  { s with
    cur := c
    dst := d
    env := { s.env with xchgIn := s.env.xchgIn.drop bs.length }
    log := s.log ++ bs.map fun b => .xchg s.build.rxFill (.ok b) }

section
variable (s : State) (bs : List Byte) (c : Cursor) (d : Dests)

@[simp] theorem State.readBytes_cur : (s.readBytes bs c d).cur = c := rfl
@[simp] theorem State.readBytes_dst : (s.readBytes bs c d).dst = d := rfl
@[simp] theorem State.readBytes_rp : (s.readBytes bs c d).rp = s.rp := rfl
@[simp] theorem State.readBytes_build : (s.readBytes bs c d).build = s.build := rfl

end

theorem State.readBytes_nil (s : State) : s.readBytes [] s.cur s.dst = s := by
  simp [State.readBytes]

theorem State.readBytes_readBytes (s : State) (a b : List Byte) (c c' : Cursor) (d d' : Dests) :
    (s.readBytes a c d).readBytes b c' d' = s.readBytes (a ++ b) c' d' := by
  simp [State.readBytes]

theorem State.readBytes_curDesc {s : State} {bs : List Byte} {c : Cursor} {d : Dests} {n : Nat} (h : s.cur.Moved n c) :
    (s.readBytes bs c d).curDesc = s.curDesc := by
  simp [State.curDesc, State.readBytes, h.p_eq, h.stack_eq]

theorem State.readBytes_curSlot {s : State} {bs : List Byte} {c : Cursor} {d : Dests} {n : Nat} (h : s.cur.Moved n c) :
    (s.readBytes bs c d).curSlot = s.curSlot := by
  simp [State.curSlot, State.readBytes, h.p_eq, h.stack_eq]

theorem State.readBytes_toStage (s : State) (bs : List Byte) (c : Cursor) (d : Dests) (st : Stage) :
    (s.readBytes bs c d).toStage st = s.readBytes bs { c with stage := st, i := 0, held := [] } d := rfl

/-- The next exchanges bring the bytes `bs`. -/
def State.Feeds (s : State) (bs : List Byte) : Prop := bs.map XchgDraw.ok <+: s.env.xchgIn

theorem State.Feeds.left {s : State} {a b : List Byte} (h : s.Feeds (a ++ b)) : s.Feeds a :=
  (List.map_append ▸ List.prefix_append ..).trans h

theorem State.Feeds.right {s : State} {a b : List Byte} {c : Cursor} {d : Dests} (h : s.Feeds (a ++ b)) :
    (s.readBytes a c d).Feeds b := by
  obtain ⟨more, h⟩ := h
  exact ⟨more, by simp [State.readBytes, ← h]⟩

/-- The block decodes a parameter, with nothing for the host to do. -/
structure State.InParam (lf : ListForm) (m : Mode) (s : State) : Prop where
  noHost : s.hostq = []
  fsm_eq : s.fsm = .rxParam
  form_eq : s.build.listForm = lf
  mode_eq : s.cl.rmode = m

variable {lf : ListForm} {m : Mode}

theorem State.InParam.readBytes {s : State} (h : s.InParam lf m) (bs : List Byte) (c : Cursor) (d : Dests) :
    (s.readBytes bs c d).InParam lf m :=
  ⟨h.noHost, h.fsm_eq, h.form_eq, h.mode_eq⟩

/-! ### One byte -/

/-- The receive rule of a descriptor (43_param_decode.md R170): a reserved tag has none. -/
def RecvDesc.rule : RecvDesc → Option (Byte → State → State)
  | .u8 => some recvU8
  | .u16be => some recvU16BE
  | .u16le => some recvU16LE
  | .u32be => some recvU32BE
  | .u32le => some recvU32LE
  | .span cap => some (recvSpan cap)
  | .nullterm cap => some (recvNullterm cap)
  | .list ecap _ => some (recvList ecap)
  | .reserved _ => none

theorem exec_decodeRecvTag {s : State} {r : RecvDesc} {f : Byte → State → State} (hf : s.fsm = .rxParam)
    (hr : s.curDesc = some r) (hrule : r.rule = some f) : exec (decodeRecvTag r.tag) s = .next (readParam f s) := by
  have hdesc : s.paramDesc = some r := by rw [State.paramDesc, if_pos hf, hr]
  cases r <;> cases hrule
  case u8 => show execDecU8 s = _; rw [execDecU8, hdesc]
  case u16be => show execDecU16BE s = _; rw [execDecU16BE, hdesc]
  case u16le => show execDecU16LE s = _; rw [execDecU16LE, hdesc]
  case u32be => show execDecU32BE s = _; rw [execDecU32BE, hdesc]
  case u32le => show execDecU32LE s = _; rw [execDecU32LE, hdesc]
  case span => show execDecSpan s = _; rw [execDecSpan, hdesc]
  case nullterm => show execDecNullterm s = _; rw [execDecNullterm, hdesc]
  case list => show execDecList s = _; rw [execDecList, hdesc]

/-- A byte inside a parameter is read, counted, and handled by the current descriptor's rule. -/
theorem State.InParam.step_eq {s : State} {r : RecvDesc} {f : Byte → State → State} {b : Byte} (h : s.InParam lf m)
    (hr : s.curDesc = some r) (hrule : r.rule = some f) (hx : s.Feeds [b]) :
    step s = .next (f b (s.readBytes [b] (s.cur.counted 1) s.dst)) := by
  obtain ⟨more, hx⟩ := hx
  obtain ⟨hdraw, hdrop⟩ := Env.xchg_cons (ds := more) hx.symm
  have hread : (s.exchanged s.build.rxFill (.ok b)).consumed = s.readBytes [b] (s.cur.counted 1) s.dst := by
    simp only [State.exchanged, State.consumed, State.readBytes, hdrop, ← hx]
    rfl
  simp only [step_block h.noHost, blockStep, h.fsm_eq, paramStep, hr, exec_decodeRecvTag h.fsm_eq hr hrule,
    readParam_ok f hdraw, hread]

/-! ### The end of an item -/

/-- From `start` the block reads the bytes `bs`, and then advances out of the item below `stack`, the destinations being `d`. -/
def State.EndsIn (start s : State) (stack : List Frame) (bs : List Byte) (d : Dests) : Prop :=
  ∃ c : Cursor, c.p = s.cur.p ∧
    Sys2Proof.core.run bs.length start = .next ((s.readBytes bs c d).advance (stack.map (Frame.counted bs.length)))

/-- The current item takes exactly the bytes `bs`, and leaves the destinations `d`. -/
def State.Decodes (s : State) (bs : List Byte) (d : Dests) : Prop := s.EndsIn s s.cur.stack bs d

/-- What is decoded after the first bytes of an item ends the item. -/
theorem State.Decodes.of_run {s : State} {a b : List Byte} {c : Cursor} {d d' : Dests} (hc : s.cur.Moved a.length c)
    (hrun : Sys2Proof.core.run a.length s = .next (s.readBytes a c d)) (h : (s.readBytes a c d).Decodes b d') :
    s.Decodes (a ++ b) d' := by
  obtain ⟨c', hp, hrest⟩ := h
  refine ⟨c', hp.trans hc.p_eq, ?_⟩
  rw [List.length_append, run_add hrun, hrest, State.readBytes_readBytes, ← map_counted_counted, ← hc.stack_eq]
  rfl

/-- An item that ends with a value. -/
theorem State.Decodes.of_finishWith {s : State} {bs : List Byte} {c : Cursor} {d : Dests} {l : Leaf}
    (hc : s.cur.Moved bs.length c)
    (hrun : Sys2Proof.core.run bs.length s = .next ((s.readBytes bs c d).finishWith l)) :
    s.Decodes bs (d.set s.curSlot l) := by
  refine ⟨c, hc.p_eq, ?_⟩
  rw [hrun, State.finishWith, State.finishItem, State.readBytes_curSlot hc, ← hc.stack_eq]
  rfl

/-! ### Length prefixes -/

section
variable {s : State} {bs : List Byte} {c : Cursor} {d : Dests} {b : Byte} (k : State → State)

theorem State.readLen_readBytes_first (hm : s.cl.rmode = .long) (hc : c.stage = .len0) :
    (s.readBytes bs c d).readLen b k = s.readBytes bs { c with stage := .len1, held := [b] } d :=
  State.readLen_first k hm hc

theorem State.readLen_readBytes_last {l : Word16}
    (h : (s.cl.rmode = .short ∧ c.stage = .len0 ∧ l = b.zeroExtend 16) ∨
      (c.stage = .len1 ∧ l = join16 (nthByte c.held 0) b)) :
    (s.readBytes bs c d).readLen b k = k (s.readBytes bs { c with len := l } d) :=
  State.readLen_last k h

end

/-- The block is at stage `st` of an item of descriptor `r`, with no byte of the stage read. -/
structure State.At (lf : ListForm) (m : Mode) (r : RecvDesc) (st : Stage) (s : State) : Prop extends s.InParam lf m where
  desc : s.curDesc = some r
  stage_eq : s.cur.stage = st
  i_eq : s.cur.i = 0
  held_eq : s.cur.held = []

section
variable {s : State} {r : RecvDesc} {f : Byte → State → State} {k : State → State} {l : Nat}

/-- All bytes of LEN are read, and the rule goes on with it (43_param_decode.md R171). -/
theorem State.At.run_prefix (h : s.At lf m r .len0) (hrule : r.rule = some f)
    (hk : ∀ b t, t.cur.stage.inLen = true → f b t = t.readLen b k) (hl : l ≤ maxLen m) (hx : s.Feeds (lenBytes m l)) :
    ∃ c, s.cur.Moved (lenBytes m l).length c ∧ c.len.toNat = l ∧
      Sys2Proof.core.run (lenBytes m l).length s = .next (k (s.readBytes (lenBytes m l) c s.dst)) := by
  have hlen0 : (s.cur.counted 1).stage = .len0 := h.stage_eq
  have hfirst (b : Byte) : f b (s.readBytes [b] (s.cur.counted 1) s.dst) =
      (s.readBytes [b] (s.cur.counted 1) s.dst).readLen b k :=
    hk _ _ (congrArg Stage.inLen hlen0)
  cases m with
  | short =>
    rw [lenBytes_short] at hx ⊢
    set b := BitVec.ofNat 8 l with hb
    have h1 := h.step_eq h.desc hrule hx
    rw [hfirst, State.readLen_readBytes_last k (.inl ⟨h.mode_eq, hlen0, rfl⟩)] at h1
    refine ⟨_, ?_, ?_, run_next 0 h1⟩
    · exact ⟨rfl, rfl⟩
    · show (b.zeroExtend 16).toNat = l
      rw [BitVec.toNat_setWidth_of_le (by decide), hb, BitVec.toNat_ofNat]
      exact Nat.mod_eq_of_lt (Nat.lt_succ_of_le hl)
  | long =>
    rw [lenBytes_long hl] at hx ⊢
    set hi := BitVec.ofNat 8 (l / 256) with hhi
    set lo := BitVec.ofNat 8 (l % 256) with hlo
    have h1 := h.step_eq h.desc hrule (hx.left (a := [hi]) (b := [lo]))
    rw [hfirst, State.readLen_readBytes_first k h.mode_eq hlen0] at h1
    have hc : s.cur.Moved 1 { s.cur.counted 1 with stage := .len1, held := [hi] } := ⟨rfl, rfl⟩
    have h2 := (h.readBytes [hi] _ s.dst).step_eq ((State.readBytes_curDesc hc).trans h.desc) hrule
      (hx.right (a := [hi]) (b := [lo]))
    rw [State.readBytes_readBytes, hk _ _ rfl, State.readLen_readBytes_last k (.inr ⟨rfl, rfl⟩)] at h2
    refine ⟨_, ?_, ?_, (run_next 1 h1).trans (run_next 0 h2)⟩
    · exact hc.trans ⟨rfl, rfl⟩
    · have hl' : l ≤ 65535 := hl
      show (join16 hi lo).toNat = l
      rw [join16_toNat, hhi, hlo, BitVec.toNat_ofNat, BitVec.toNat_ofNat]
      omega

/-- An item that begins with LEN: the bytes of LEN, and then what is decoded at the stage that the rule goes on to. -/
theorem State.At.decodes_prefix {st : Stage} {bs : List Byte} {d : Dests} (h : s.At lf m r .len0) (hrule : r.rule = some f)
    (hk : ∀ b t, t.cur.stage.inLen = true → f b t = t.readLen b k) (hl : l ≤ maxLen m)
    (hx : s.Feeds (lenBytes m l ++ bs)) (hst : ∀ t : State, t.cur.len.toNat = l → k t = t.toStage st)
    (hrest : ∀ t : State, t.At lf m r st → t.cur.len.toNat = l → t.dst = s.dst → t.curSlot = s.curSlot → t.Feeds bs →
      t.Decodes bs d) : s.Decodes (lenBytes m l ++ bs) d := by
  obtain ⟨c, hc, hlen, hrun⟩ := h.run_prefix hrule hk hl hx.left
  rw [hst _ hlen, State.readBytes_toStage] at hrun
  have hc' : s.cur.Moved (lenBytes m l).length { c with stage := st, i := 0, held := [] } := ⟨hc.p_eq, hc.stack_eq⟩
  have hat : (s.readBytes (lenBytes m l) { c with stage := st, i := 0, held := [] } s.dst).At lf m r st :=
    { h.readBytes .. with
      desc := (State.readBytes_curDesc hc').trans h.desc
      stage_eq := rfl
      i_eq := rfl
      held_eq := rfl }
  exact .of_run hc' hrun (hrest _ hat hlen rfl (State.readBytes_curSlot hc') hx.right)

end

end Sys2Proof.Machine
end

section
/-! The decode of scalars and of spans, from the first byte of the item to its end (43_param_decode.md R172 to R178). -/

namespace Sys2Proof.Machine

open Sys2Proof.Config

variable {lf : ListForm} {m : Mode}

/-! ### Scalars -/

/-- A 16-bit value is its two bytes joined (30_encoding.md R94). -/
theorem join16_bytes (v : Word16) : join16 (v.extractLsb' 8 8) (v.extractLsb' 0 8) = v := by
  refine BitVec.eq_of_toNat_eq ?_
  rw [join16_toNat, BitVec.extractLsb'_toNat, BitVec.extractLsb'_toNat, Nat.shiftRight_eq_div_pow]
  omega

/-- A 32-bit value is its four bytes joined (30_encoding.md R94). -/
theorem join32_bytes (v : Word32) :
    join32 (v.extractLsb' 24 8) (v.extractLsb' 16 8) (v.extractLsb' 8 8) (v.extractLsb' 0 8) = v := by
  refine BitVec.eq_of_toNat_eq ?_
  simp only [join32_toNat, BitVec.extractLsb'_toNat, Nat.shiftRight_eq_div_pow]
  omega

theorem asmU16BE_be16 (v : Word16) : asmU16BE (be16 v) = .u16 v := congrArg Leaf.u16 (join16_bytes v)

theorem asmU16LE_le16 (v : Word16) : asmU16LE (le16 v) = .u16 v := congrArg Leaf.u16 (join16_bytes v)

theorem asmU32BE_be32 (v : Word32) : asmU32BE (be32 v) = .u32 v := congrArg Leaf.u32 (join32_bytes v)

theorem asmU32LE_le32 (v : Word32) : asmU32LE (le32 v) = .u32 v := congrArg Leaf.u32 (join32_bytes v)

section
variable {s : State} {bs : List Byte} {c : Cursor} {d : Dests} {n : Nat} (asm : List Byte → Leaf) (b : Byte)

/-- A payload byte of a scalar that is not the last is held. -/
theorem recvScalar_held (hc : c.stage = .payload) (hlt : c.i + 1 < n) :
    recvScalar n asm b (s.readBytes bs c d) = s.readBytes bs { c with i := c.i + 1, held := c.held ++ [b] } d := by
  simp only [recvScalar, State.readBytes_cur, hc, Stage.inLen, Bool.false_eq_true, if_false, if_pos hlt]
  rfl

theorem recvScalar_last (hc : c.stage = .payload) (hn : c.i + 1 = n) :
    recvScalar n asm b (s.readBytes bs c d) = (s.readBytes bs c d).finishWith (asm (c.held ++ [b])) := by
  simp only [recvScalar, State.readBytes_cur, hc, Stage.inLen, Bool.false_eq_true, if_false, if_neg hn.not_lt]

end

/-- The payload of a scalar is kept byte by byte, and its last byte assembles the value (43_param_decode.md R172 to R176). -/
theorem State.InParam.decodes_scalarPayload {n : Nat} {asm : List Byte → Leaf} {r : RecvDesc}
    {s : State} (h : s.InParam lf m) (hrule : r.rule = some (recvScalar n asm)) {bs : List Byte} (hbs : bs ≠ [])
    (hr : s.curDesc = some r) (hstage : s.cur.stage = .payload) (hn : s.cur.i + bs.length = n) (hx : s.Feeds bs) :
    s.Decodes bs (s.dst.set s.curSlot (asm (s.cur.held ++ bs))) := by
  induction bs generalizing s with
  | nil => exact absurd rfl hbs
  | cons b bs ih =>
    have hpay : (s.cur.counted 1).stage = .payload := hstage
    have hstep := h.step_eq hr hrule (hx.left (a := [b]))
    cases bs with
    | nil =>
      rw [recvScalar_last asm b hpay hn] at hstep
      exact .of_finishWith (s.cur.moved_counted 1) (run_next 0 hstep)
    | cons b' bs =>
      have hlt : (s.cur.counted 1).i + 1 < n := by
        rw [← hn, List.length_cons, List.length_cons]
        show s.cur.i + 1 < _
        omega
      rw [recvScalar_held asm b hpay hlt] at hstep
      have hc : s.cur.Moved 1 { s.cur.counted 1 with i := s.cur.i + 1, held := s.cur.held ++ [b] } := ⟨rfl, rfl⟩
      have hrest := ih (h.readBytes [b] _ s.dst) (List.cons_ne_nil b' bs) ((State.readBytes_curDesc hc).trans hr) hstage
        ((Nat.succ_add_eq_add_succ ..).trans hn) (hx.right (a := [b]))
      rw [State.readBytes_curSlot hc, State.readBytes_cur, List.append_assoc] at hrest
      exact .of_run (a := [b]) hc (run_next 0 hstep) hrest

theorem le_maxLen (m : Mode) {n : Nat} (h : n ≤ 255) : n ≤ maxLen m := by
  cases m with
  | short => exact h
  | long => exact h.trans (by decide)

theorem State.At.decodes_scalar {n : Nat} {asm : List Byte → Leaf} {r : RecvDesc} {s : State} {bs : List Byte}
    {l : Leaf} (h : s.At lf m r .len0) (hrule : r.rule = some (recvScalar n asm)) (hbs : bs ≠ []) (hn : bs.length = n)
    (hmax : n ≤ 255) (hl : asm bs = l) (hx : s.Feeds (lenBytes m n ++ bs)) :
    s.Decodes (lenBytes m n ++ bs) (s.dst.set s.curSlot l) := by
  refine h.decodes_prefix hrule (fun _ _ hin => if_pos hin) (le_maxLen m hmax) hx (fun t hlen => if_neg (not_not.2 hlen)) ?_
  intro t ht _ hdst hslot hfeed
  have hpay := ht.decodes_scalarPayload hrule hbs ht.desc ht.stage_eq (by rw [ht.i_eq, Nat.zero_add, hn]) hfeed
  rwa [ht.held_eq, List.nil_append, hdst, hslot, hl] at hpay

/-! ### Spans -/

/-- A write above every listed index goes to the end. -/
theorem Memory.write_of_lt {mem : Memory} {i : Nat} (v : Byte) (h : ∀ c ∈ mem, c.1 < i) : mem.write i v = mem ++ [(i, v)] := by
  induction mem with
  | nil => rfl
  | cons c rest ih =>
    obtain ⟨hc, hrest⟩ := List.forall_mem_cons.1 h
    rw [Memory.write, if_neg hc.not_gt, if_neg hc.ne', ih hrest, List.cons_append]

/-- The next byte of a buffer goes to the end. -/
theorem cellsOf_concat (bs : List Byte) (b : Byte) : cellsOf (bs ++ [b]) = (cellsOf bs).write bs.length b := by
  have hlt : ∀ c ∈ cellsOf bs, c.1 < bs.length := by
    intro c hc
    obtain ⟨i, hi, rfl⟩ := List.mem_mapIdx.1 hc
    exact hi
  rw [Memory.write_of_lt b hlt, cellsOf, List.mapIdx_concat]
  rfl

/-- `d'` is `d` with the bytes `bs` received at a slot that held nothing. -/
structure Dests.Buffered (d d' : Dests) (p : Slot) (bs : List Byte) : Prop where
  buffer_eq : d'.buffer p = cellsOf bs
  set_eq : ∀ l, d'.set p l = d.set p l

theorem Dests.Buffered.memWrite {d d' : Dests} {p : Slot} {bs : List Byte} (h : d.Buffered d' p bs) (b : Byte) :
    d.Buffered (d'.memWrite p bs.length b) p (bs ++ [b]) where
  buffer_eq := by rw [Dests.buffer_memWrite, h.buffer_eq, cellsOf_concat]
  set_eq l := by rw [Dests.memWrite, Dests.set_set, h.set_eq]

/-- The rule `f` stores every payload byte but the last (43_param_decode.md R177, R178). -/
def Stores (f : Byte → State → State) : Prop :=
  ∀ (s : State) (bs : List Byte) (c : Cursor) (d : Dests) (b : Byte), c.stage = .payload → c.i + 1 < c.len.toNat →
    f b (s.readBytes bs c d) = s.readBytes bs { c with i := c.i + 1 } (d.memWrite (s.readBytes bs c d).curSlot c.i b)

theorem recvSpan_stores (cap : Nat) : Stores (recvSpan cap) := by
  intro s bs c d b hstage hlt
  have hin : c.stage.inLen = false := congrArg Stage.inLen hstage
  simp only [recvSpan, State.readBytes_cur, hin, Bool.false_eq_true, if_false, hlt, if_true]
  rfl

theorem recvNullterm_stores (cap : Nat) : Stores (recvNullterm cap) := by
  intro s bs c d b hstage hlt
  have hin : c.stage.inLen = false := congrArg Stage.inLen hstage
  simp only [recvNullterm, State.readBytes_cur, hin, Bool.false_eq_true, if_false, hlt, if_true]
  rfl

/-- The payload bytes `bs` have been read and stored: the cursor is `c`, the destinations are `d`. -/
structure State.Stored (s : State) (bs : List Byte) (c : Cursor) (d : Dests) : Prop where
  moved : s.cur.Moved bs.length c
  stage_eq : c.stage = .payload
  i_eq : c.i = bs.length
  len_eq : c.len = s.cur.len
  buffered : s.dst.Buffered d s.curSlot bs
  run_eq : Sys2Proof.core.run bs.length s = .next (s.readBytes bs c d)

section
variable {s : State} {r : RecvDesc} {f : Byte → State → State} (h : s.At lf m r .payload) (hrule : r.rule = some f)
include h hrule

/-- The byte after the stored ones. -/
theorem State.At.run_concat {bs : List Byte} {c : Cursor} {d : Dests} {b : Byte} (hst : s.Stored bs c d)
    (hx : s.Feeds (bs ++ [b])) : s.cur.Moved (bs ++ [b]).length (c.counted 1) ∧
      Sys2Proof.core.run (bs ++ [b]).length s = .next (f b (s.readBytes (bs ++ [b]) (c.counted 1) d)) := by
  have hstep := (h.readBytes bs c d).step_eq ((State.readBytes_curDesc hst.moved).trans h.desc) hrule hx.right
  rw [State.readBytes_readBytes] at hstep
  rw [List.length_append]
  exact ⟨hst.moved.trans (c.moved_counted 1), (run_add hst.run_eq).trans (run_next 0 hstep)⟩

/-- All payload bytes but the last are stored in the buffer, from index 0 on. -/
theorem State.At.stored (hf : Stores f) (hbuf : s.dst.buffer s.curSlot = []) (bs : List Byte) :
    bs.length < s.cur.len.toNat → s.Feeds bs → ∃ c d, s.Stored bs c d := by
  induction bs using List.reverseRecOn with
  | nil =>
    intro _ _
    exact ⟨s.cur, s.dst, s.cur.moved_zero, h.stage_eq, h.i_eq, rfl, ⟨hbuf, fun _ => rfl⟩, congrArg _ s.readBytes_nil.symm⟩
  | append_singleton bs b ih =>
    intro hlen hx
    rw [List.length_append, List.length_singleton] at hlen
    obtain ⟨c, d, hst⟩ := ih (Nat.lt_of_succ_lt hlen) hx.left
    obtain ⟨hc, hrun⟩ := h.run_concat hrule hst hx
    have hpay : (c.counted 1).stage = .payload := hst.stage_eq
    have hlt : (c.counted 1).i + 1 < (c.counted 1).len.toNat := by
      show c.i + 1 < c.len.toNat
      rwa [hst.i_eq, hst.len_eq]
    rw [hf _ _ _ _ _ hpay hlt, State.readBytes_curSlot hc] at hrun
    exact ⟨{ c.counted 1 with i := c.i + 1 }, d.memWrite s.curSlot c.i b, {
      moved := ⟨hc.p_eq, hc.stack_eq⟩
      stage_eq := hst.stage_eq
      i_eq := by rw [List.length_append, ← hst.i_eq]; rfl
      len_eq := hst.len_eq
      buffered := hst.i_eq ▸ hst.buffered.memWrite b
      run_eq := hrun }⟩

end

/-- An item that ends with RLEN. -/
theorem State.Decodes.of_finishRlen {s : State} {bs bs' : List Byte} {c : Cursor} {d : Dests} {n : Nat}
    (hc : s.cur.Moved bs.length c) (hd : s.dst.Buffered d s.curSlot bs')
    (hrun : Sys2Proof.core.run bs.length s = .next ((s.readBytes bs c d).finishRlen n)) :
    s.Decodes bs (s.dst.set s.curSlot (.bytes (cellsOf bs') (some n))) := by
  rw [State.finishRlen_eq, State.readBytes_dst, State.readBytes_curSlot hc, hd.buffer_eq] at hrun
  rw [← hd.set_eq]
  exact .of_finishWith hc hrun

theorem recvSpan_last {s : State} {bs : List Byte} {c : Cursor} {d : Dests} (cap : Nat) (b : Byte)
    (hstage : c.stage = .payload) (hlast : c.i + 1 = c.len.toNat) :
    recvSpan cap b (s.readBytes bs c d) =
      (s.readBytes bs c (d.memWrite (s.readBytes bs c d).curSlot c.i b)).finishRlen c.len.toNat := by
  have hin : c.stage.inLen = false := congrArg Stage.inLen hstage
  simp only [recvSpan, State.readBytes_cur, hin, Bool.false_eq_true, if_false, hlast.not_lt]
  rfl

theorem recvNullterm_last {s : State} {bs : List Byte} {c : Cursor} {d : Dests} (cap : Nat)
    (hstage : c.stage = .payload) (hlast : c.i + 1 = c.len.toNat) :
    recvNullterm cap NUL (s.readBytes bs c d) = (s.readBytes bs c d).finishRlen (c.len.toNat - 1) := by
  have hin : c.stage.inLen = false := congrArg Stage.inLen hstage
  simp only [recvNullterm, State.readBytes_cur, hin, Bool.false_eq_true, if_false, hlast.not_lt, ne_eq, not_true]

section
variable {s : State} {cap : Nat} {bs : List Byte}

theorem State.At.decodes_spanPayload (h : s.At lf m (.span cap) .payload) (hbuf : s.dst.buffer s.curSlot = [])
    (hbs : bs ≠ []) (hlen : s.cur.len.toNat = bs.length) (hx : s.Feeds bs) :
    s.Decodes bs (s.dst.set s.curSlot (.bytes (cellsOf bs) (some bs.length))) := by
  obtain ⟨init, b, rfl⟩ := (List.eq_nil_or_concat' bs).resolve_left hbs
  have hlt : init.length < s.cur.len.toNat := by
    rw [hlen, List.length_append]
    exact Nat.lt_succ_self _
  obtain ⟨c, d, hst⟩ := h.stored rfl (recvSpan_stores cap) hbuf init hlt hx.left
  obtain ⟨hc, hrun⟩ := h.run_concat rfl hst hx
  have hpay : (c.counted 1).stage = .payload := hst.stage_eq
  have hend : (c.counted 1).len.toNat = (init ++ [b]).length := (congrArg BitVec.toNat hst.len_eq).trans hlen
  have hlast : (c.counted 1).i + 1 = (c.counted 1).len.toNat := by
    rw [hend, List.length_append, ← hst.i_eq]
    rfl
  rw [recvSpan_last cap b hpay hlast, State.readBytes_curSlot hc, hend] at hrun
  exact .of_finishRlen hc (hst.i_eq ▸ hst.buffered.memWrite b) hrun

theorem State.At.decodes_span (h : s.At lf m (.span cap) .len0) (hbuf : s.dst.buffer s.curSlot = [])
    (hmax : bs.length ≤ maxLen m) (hcap : bs.length ≤ cap) (hx : s.Feeds (encSpan bs m)) :
    s.Decodes (encSpan bs m) (s.dst.set s.curSlot (.bytes (cellsOf bs) (some bs.length))) := by
  cases bs with
  | nil =>
    rw [encSpan, List.append_nil] at hx ⊢
    obtain ⟨c, hc, hlen, hrun⟩ := h.run_prefix rfl (fun _ _ hin => if_pos hin) hmax hx
    rw [State.readBytes_cur, hlen, if_neg hcap.not_gt, List.length_nil, if_pos rfl] at hrun
    exact .of_finishRlen hc ⟨hbuf, fun _ => rfl⟩ hrun
  | cons b bs =>
    refine h.decodes_prefix (st := .payload) rfl (fun _ _ hin => if_pos hin) hmax hx (fun t hlen => ?_) ?_
    · rw [hlen, if_neg hcap.not_gt, List.length_cons, if_neg (Nat.succ_ne_zero _)]
    · intro t ht hlen hdst hslot hfeed
      have hpay := ht.decodes_spanPayload (hdst.symm ▸ hslot.symm ▸ hbuf) (List.cons_ne_nil b bs) hlen hfeed
      rwa [hdst, hslot] at hpay

theorem State.At.decodes_nulltermPayload (h : s.At lf m (.nullterm cap) .payload) (hbuf : s.dst.buffer s.curSlot = [])
    (hlen : s.cur.len.toNat = bs.length + 1) (hx : s.Feeds (bs ++ [NUL])) :
    s.Decodes (bs ++ [NUL]) (s.dst.set s.curSlot (.bytes (cellsOf bs) (some bs.length))) := by
  obtain ⟨c, d, hst⟩ := h.stored rfl (recvNullterm_stores cap) hbuf bs (hlen ▸ Nat.lt_succ_self _) hx.left
  obtain ⟨hc, hrun⟩ := h.run_concat rfl hst hx
  have hpay : (c.counted 1).stage = .payload := hst.stage_eq
  have hend : (c.counted 1).len.toNat = bs.length + 1 := (congrArg BitVec.toNat hst.len_eq).trans hlen
  rw [recvNullterm_last cap hpay (by rw [hend, ← hst.i_eq]; rfl), hend] at hrun
  exact .of_finishRlen hc hst.buffered hrun

theorem State.At.decodes_nullterm (h : s.At lf m (.nullterm cap) .len0) (hbuf : s.dst.buffer s.curSlot = [])
    (hmax : bs.length + 1 ≤ maxLen m) (hcap : bs.length ≤ cap) (hx : s.Feeds (encNullterm bs m)) :
    s.Decodes (encNullterm bs m) (s.dst.set s.curSlot (.bytes (cellsOf bs) (some bs.length))) := by
  rw [encNullterm, List.append_assoc] at hx ⊢
  refine h.decodes_prefix (st := .payload) rfl (fun _ _ hin => if_pos hin) hmax hx (fun t hlen => ?_) ?_
  · rw [hlen, if_neg (Nat.succ_ne_zero _), Nat.add_sub_cancel, if_neg hcap.not_gt]
  · intro t ht hlen hdst hslot hfeed
    have hpay := ht.decodes_nulltermPayload (hdst.symm ▸ hslot.symm ▸ hbuf) hlen hfeed
    rwa [hdst, hslot] at hpay

end

end Sys2Proof.Machine
end

section
/-! The decode of sub-lists, and with them of every value, by induction over the send descriptor (43_param_decode.md R179, R182). -/

namespace Sys2Proof.Machine

open Sys2Proof.Config

variable {lf : ListForm} {m : Mode}

/-! ### The slots that a value is stored at -/

theorem Slot.ne_of_not_prefix {slot q : Slot} (h : ¬ slot <+: q) : q ≠ slot := by
  rintro rfl
  exact h (List.prefix_refl _)

mutual
/-- A value is stored at its slot and at the slots below it only. -/
theorem SendDesc.get_stored {slot q : Slot} (h : ¬ slot <+: q) (dst : Dests) :
    ∀ d : SendDesc, (d.stored slot dst).get q = dst.get q
  | .u8 _ | .u16be _ | .u16le _ | .u32be _ | .u32le _ | .span _ | .nullterm _ =>
    Dests.get_set_other _ _ (Slot.ne_of_not_prefix h)
  | .list _ elems => by
    rw [SendDesc.stored, Dests.get_set_other _ _ (Slot.ne_of_not_prefix h), SendElems.get_stored h 0 dst elems]
  | .reserved _ => rfl
theorem SendElems.get_stored {slot q : Slot} (h : ¬ slot <+: q) (j : Nat) (dst : Dests) :
    ∀ es : SendElems, (es.stored slot j dst).get q = dst.get q
  | .nil => rfl
  | .cons d rest => by
    rw [SendElems.stored, SendElems.get_stored h (j + 1) _ rest,
      SendDesc.get_stored (fun hp => h ((List.prefix_append ..).trans hp)) dst d]
end

/-- Nothing is written at a slot or below it. -/
def Dests.Fresh (d : Dests) (slot : Slot) : Prop := ∀ q, slot <+: q → d.get q = none

theorem Dests.Fresh.buffer_eq {d : Dests} {slot : Slot} (h : d.Fresh slot) : d.buffer slot = [] := by
  rw [Dests.buffer, h slot (List.prefix_refl _)]

theorem Dests.Fresh.below {d : Dests} {slot : Slot} (h : d.Fresh slot) (j : Nat) : d.Fresh (slot ++ [j]) :=
  fun q hq => h q ((List.prefix_append ..).trans hq)

/-- An element leaves the slots of the others as they are. -/
theorem Dests.Fresh.stored {dst : Dests} {slot : Slot} {i j : Nat} (h : dst.Fresh (slot ++ [i])) (d : SendDesc)
    (hij : i ≠ j) : (d.stored (slot ++ [j]) dst).Fresh (slot ++ [i]) := by
  intro q hq
  rw [SendDesc.get_stored (fun hp => hij ?_), h q hq]
  have heq := (List.prefix_of_prefix_length_le hq hp (by simp)).eq_of_length (by simp)
  simpa using heq

/-- No slot of parameter `p` is listed. -/
theorem Dests.fresh_of_head {d : Dests} {p : Nat} (h : ∀ x ∈ d, x.1.head? ≠ some p) : d.Fresh [p] := by
  rintro q ⟨rest, rfl⟩
  cases hq : d.get ([p] ++ rest) with
  | none => rfl
  | some l => exact absurd rfl (h _ (Dests.mem_of_get hq))

/-! ### Sub-lists -/

theorem RecvDesc.descend_succ {ecap : Nat} {ed : RecvDesc} :
    ∀ {n : Nat} {r : RecvDesc}, RecvDesc.descend n r = some (.list ecap ed) → RecvDesc.descend (n + 1) r = some ed
  | 0, _, h => by
    cases h
    rfl
  | n + 1, .list _ ed', h => RecvDesc.descend_succ (n := n) (r := ed') h

theorem slotDesc_succ {rp : List RecvDesc} {p n ecap : Nat} {ed : RecvDesc} (h : slotDesc rp p n = some (.list ecap ed)) :
    slotDesc rp p (n + 1) = some ed := by
  unfold slotDesc at h ⊢
  split at h
  case h_1 => exact RecvDesc.descend_succ h
  case h_2 => nomatch h

/-- The sub-list of frame `f` goes on: its element `f.j` begins, or the list ends (43_param_decode.md R179). -/
def State.atElem (s : State) (f : Frame) (rest : List Frame) : State :=
  if f.j < f.k then s.openItem s.cur.p (f :: rest)
  else if f.mismatch then s.failPhase .malformedLength
  else State.advance { s with dst := s.dst.set (slotOf s.cur.p rest) (.count f.k) } rest

theorem State.advance_cons (s : State) (f : Frame) (rest : List Frame) :
    s.advance (f :: rest) = s.atElem { f with j := f.j + 1 } rest := by
  rw [State.advance]
  rfl

theorem State.atElem_of_lt (s : State) {f : Frame} (rest : List Frame) (h : f.j < f.k) :
    s.atElem f rest = s.openItem s.cur.p (f :: rest) := if_pos h

/-- A sub-list without a further element ends. -/
theorem State.advance_of_le (s : State) {f : Frame} (rest : List Frame) (h : f.k ≤ f.j) :
    s.advance (f :: rest) = s.atElem f rest := by
  rw [State.advance, State.atElem, if_neg (Nat.not_lt.2 (h.trans (Nat.le_succ _))), if_neg h.not_gt]

/-- Under PREFIXED, `n` more bytes make the expected length (43_param_decode.md R179). -/
def Frame.Expects (f : Frame) (n : Nat) : Prop := ∀ t, f.expect = some t → t = f.consumed + n

theorem Frame.Expects.not_mismatch {f : Frame} (h : f.Expects 0) : f.mismatch = false := by
  unfold Frame.mismatch
  split
  case h_1 t ht => simp [h t ht]
  case h_2 => rfl

theorem Frame.Expects.counted {f : Frame} {a b : Nat} (h : f.Expects (a + b)) (j : Nat) :
    ({ f.counted a with j := j } : Frame).Expects b :=
  fun t ht => (h t ht).trans (Nat.add_assoc ..).symm

/-- The element that a sub-list goes on with. -/
theorem State.InParam.openItem {s : State} (h : s.InParam lf m) {p : Nat} {stack : List Frame} {r : RecvDesc}
    (hr : slotDesc s.rp p stack.length = some r) :
    (s.openItem p stack).At lf m r (openStage lf (some r)) where
  noHost := h.noHost
  fsm_eq := rfl
  form_eq := h.form_eq
  mode_eq := h.mode_eq
  desc := hr
  stage_eq := by rw [← hr, ← h.form_eq]; rfl
  i_eq := rfl
  held_eq := rfl

theorem State.InParam.openItem_readBytes {s : State} (h : s.InParam lf m) (p : Nat) (stack : List Frame) (bs : List Byte)
    (c : Cursor) (d : Dests) : (s.openItem p stack).readBytes bs c d = s.readBytes bs c d := by
  simp only [State.readBytes, State.openItem, h.fsm_eq]

/-- The list ends after its last element, with RCNT at its slot. -/
theorem State.atElem_end {s : State} {f : Frame} (rest : List Frame) (hk : f.j = f.k) (hexp : f.Expects 0) :
    (s.atElem f rest).EndsIn s rest [] (s.dst.set (slotOf s.cur.p rest) (.count f.k)) := by
  refine ⟨s.cur, rfl, ?_⟩
  rw [State.atElem, if_neg hk.not_lt, hexp.not_mismatch, List.length_nil, map_counted_zero]
  simp [State.readBytes, run_zero]

/-- An element is decoded, and the sub-list goes on with the next one. -/
theorem State.InParam.atElem_next {s : State} {f : Frame} {rest : List Frame} {a b : List Byte} {d d' : Dests}
    (h : s.InParam lf m) (hlt : f.j < f.k) (hx : s.Feeds (a ++ b))
    (helem : (s.openItem s.cur.p (f :: rest)).Decodes a d)
    (hrest : ∀ t : State, t.InParam lf m → t.rp = s.rp → t.cur.p = s.cur.p → t.dst = d → t.Feeds b →
      (t.atElem { f.counted a.length with j := f.j + 1 } (rest.map (Frame.counted a.length))).EndsIn t
        (rest.map (Frame.counted a.length)) b d') :
    (s.atElem f rest).EndsIn s rest (a ++ b) d' := by
  obtain ⟨c, hp, hrun⟩ := helem
  rw [h.openItem_readBytes] at hrun
  obtain ⟨c', hp', hrun'⟩ := hrest (s.readBytes a c d) (h.readBytes ..) rfl hp rfl hx.right
  refine ⟨c', hp'.trans hp, ?_⟩
  rw [State.readBytes_readBytes] at hrun'
  rw [State.atElem_of_lt _ _ hlt, List.length_append, run_add hrun, ← map_counted_counted, ← hrun']
  exact congrArg _ (State.advance_cons ..)

/-- The bytes of the elements, one after another (42_param_encode.md R159). -/
def SendElems.bytes (lf : ListForm) (m : Mode) (es : SendElems) : List Byte := es.toList.flatMap (SendDesc.bytes lf m)

theorem SendElems.bytes_cons (d : SendDesc) (rest : SendElems) :
    (SendElems.cons d rest).bytes lf m = d.bytes lf m ++ rest.bytes lf m := rfl

/-- The frame of a sub-list of `k` elements, pushed at its count byte (43_param_decode.md R179). -/
def listFrame (lf : ListForm) (len k : Nat) : Frame :=
  ⟨0, k, match lf with | .countOnly => none | .prefixed => some len, 1⟩

theorem recvList_count {s : State} {bs : List Byte} {c : Cursor} {d : Dests} {ecap : Nat} {b : Byte}
    (hin : c.stage.inLen = false) (hcap : b.toNat ≤ ecap) :
    recvList ecap b (s.readBytes bs c d) =
      (s.readBytes bs c d).atElem (listFrame s.build.listForm c.len.toNat b.toNat) c.stack := by
  simp only [recvList, State.readBytes_cur, State.readBytes_build, hin, Bool.false_eq_true, if_false, hcap.not_gt]
  split
  case isTrue hk => exact State.advance_of_le _ _ hk.le
  case isFalse hk => exact (State.atElem_of_lt _ _ (Nat.pos_of_ne_zero hk)).symm

/-- The count byte (43_param_decode.md R179). -/
theorem State.At.step_count {s : State} {ecap : Nat} {ed : RecvDesc} {k : Nat} (h : s.At lf m (.list ecap ed) .count)
    (hcap : k ≤ ecap) (hk : k ≤ 255) (hx : s.Feeds [BitVec.ofNat 8 k]) :
    step s = .next ((s.readBytes [BitVec.ofNat 8 k] (s.cur.counted 1) s.dst).atElem (listFrame lf s.cur.len.toNat k)
      (s.cur.counted 1).stack) := by
  have hnat : (BitVec.ofNat 8 k).toNat = k := Nat.mod_eq_of_lt (Nat.lt_succ_of_le hk)
  have hin : (s.cur.counted 1).stage.inLen = false := congrArg Stage.inLen h.stage_eq
  rw [h.step_eq h.desc rfl hx, recvList_count hin (hnat.symm ▸ hcap), hnat, h.form_eq]
  rfl

/-- Wherever a sub-list of descriptor `ed` goes on with the elements `es`, they are all read and stored, and end the list. -/
def SendElems.Decodable (lf : ListForm) (m : Mode) (ed : RecvDesc) (es : SendElems) : Prop :=
  ∀ {s : State} {f : Frame} {rest : List Frame}, s.InParam lf m → slotDesc s.rp s.cur.p (rest.length + 1) = some ed →
    f.j + es.length = f.k → f.Expects (es.bytes lf m).length →
    (∀ i, f.j ≤ i → s.dst.Fresh (slotOf s.cur.p rest ++ [i])) → s.Feeds (es.bytes lf m) →
    (s.atElem f rest).EndsIn s rest (es.bytes lf m)
      ((es.stored (slotOf s.cur.p rest) f.j s.dst).set (slotOf s.cur.p rest) (.count f.k))

section
variable {s : State} {ecap : Nat} {ed : RecvDesc} {et : BitVec 4} {es : SendElems} (helems : es.Decodable lf m ed)
include helems

/-- A sub-list from its count byte on. -/
theorem State.At.decodes_count (h : s.At lf m (.list ecap ed) .count) (hcap : es.length ≤ ecap) (hk : es.length ≤ 255)
    (hexp : (listFrame lf s.cur.len.toNat es.length).Expects (es.bytes lf m).length) (hfresh : s.dst.Fresh s.curSlot)
    (hx : s.Feeds ([BitVec.ofNat 8 es.length] ++ es.bytes lf m)) :
    s.Decodes ([BitVec.ofNat 8 es.length] ++ es.bytes lf m) ((SendDesc.list et es).stored s.curSlot s.dst) := by
  have hslot : slotOf s.cur.p (s.cur.counted 1).stack = s.curSlot := slotOf_counted ..
  have hdesc : slotDesc s.rp s.cur.p ((s.cur.counted 1).stack.length + 1) = some ed := by
    rw [Cursor.counted, List.length_map]
    exact slotDesc_succ h.desc
  have hend := helems (s := s.readBytes [BitVec.ofNat 8 es.length] (s.cur.counted 1) s.dst) (h.readBytes ..) hdesc
    (Nat.zero_add _) hexp (fun i _ => hslot.symm ▸ hfresh.below i) hx.right
  obtain ⟨c, hp, hrun⟩ := hend
  refine ⟨c, hp, ?_⟩
  rw [State.readBytes_readBytes] at hrun
  rw [List.length_append, ← map_counted_counted, ← hslot]
  exact (run_add (run_next 0 (h.step_count hcap hk hx.left))).trans hrun

/-- A sub-list from its first byte on, under either list form. -/
theorem State.At.decodes_list (h : s.At lf m (.list ecap ed) (openStage lf (some (.list ecap ed))))
    (hcap : es.length ≤ ecap) (hvalid : (SendDesc.list et es).valid lf m = true) (hfresh : s.dst.Fresh s.curSlot)
    (hx : s.Feeds ((SendDesc.list et es).bytes lf m)) :
    s.Decodes ((SendDesc.list et es).bytes lf m) ((SendDesc.list et es).stored s.curSlot s.dst) := by
  simp only [SendDesc.valid, Bool.and_eq_true, decide_eq_true_eq] at hvalid
  obtain ⟨⟨⟨_, hk⟩, _⟩, hmax⟩ := hvalid
  rw [SendDesc.bytes_list] at hx ⊢
  cases lf with
  | countOnly => exact h.decodes_count helems hcap hk nofun hfresh hx
  | prefixed =>
    rw [encListHead, List.append_assoc] at hx ⊢
    refine h.decodes_prefix (st := .count) rfl (fun _ _ hin => if_pos hin) (of_decide_eq_true hmax) hx (fun _ _ => rfl) ?_
    intro t ht hlen hdst hslot hfeed
    have hexp : (listFrame .prefixed t.cur.len.toNat es.length).Expects (es.bytes .prefixed m).length := by
      rintro _ ⟨⟩
      rw [hlen, ← SendElems.bytes_length]
      rfl
    rw [← hslot, ← hdst] at hfresh ⊢
    exact ht.decodes_count helems hcap hk hexp hfresh hfeed

end

/-! ### Every descriptor -/

/-- Every tag but the sub-list (43_param_decode.md R172 to R178). -/
theorem SendDesc.decodes_leaf {d : SendDesc} {r : RecvDesc} {s : State} (hleaf : ∀ et es, d ≠ .list et es)
    (h : s.At lf m r (openStage lf (some r))) (hvalid : d.valid lf m = true) (hfit : d.fitsIn r = true)
    (hfresh : s.dst.Fresh s.curSlot) (hx : s.Feeds (d.bytes lf m)) :
    s.Decodes (d.bytes lf m) (d.stored s.curSlot s.dst) := by
  revert hfit
  fun_cases SendDesc.fitsIn d r <;> intro hfit
  case case1 =>
    rw [SendDesc.bytes_u8] at hx ⊢
    exact h.decodes_scalar rfl nofun rfl (by decide) rfl hx
  case case2 =>
    rw [SendDesc.bytes_u16be] at hx ⊢
    exact h.decodes_scalar rfl nofun rfl (by decide) (asmU16BE_be16 _) hx
  case case3 =>
    rw [SendDesc.bytes_u16le] at hx ⊢
    exact h.decodes_scalar rfl nofun rfl (by decide) (asmU16LE_le16 _) hx
  case case4 =>
    rw [SendDesc.bytes_u32be] at hx ⊢
    exact h.decodes_scalar rfl nofun rfl (by decide) (asmU32BE_be32 _) hx
  case case5 =>
    rw [SendDesc.bytes_u32le] at hx ⊢
    exact h.decodes_scalar rfl nofun rfl (by decide) (asmU32LE_le32 _) hx
  case case6 =>
    rw [SendDesc.bytes_span] at hx ⊢
    exact h.decodes_span hfresh.buffer_eq (of_decide_eq_true hvalid) (of_decide_eq_true hfit) hx
  case case7 =>
    rw [SendDesc.bytes_nullterm] at hx ⊢
    exact h.decodes_nullterm hfresh.buffer_eq (of_decide_eq_true hvalid) (of_decide_eq_true hfit) hx
  case case8 => exact absurd rfl (hleaf _ _)
  case case9 => nomatch hfit

theorem SendDesc.fitsIn_list {et : BitVec 4} {es : SendElems} {r : RecvDesc} (h : (SendDesc.list et es).fitsIn r = true) :
    ∃ ecap ed, r = .list ecap ed ∧ es.length ≤ ecap ∧ es.fitIn ed = true := by
  cases r with
  | list ecap ed =>
    simp only [SendDesc.fitsIn, Bool.and_eq_true, decide_eq_true_eq] at h
    exact ⟨ecap, ed, rfl, h⟩
  | _ => nomatch h

mutual
/-- A value's bytes are all read, and leave the value at the item's slot (43_param_decode.md R182). -/
theorem SendDesc.decodes : ∀ {d : SendDesc} {r : RecvDesc} {s : State}, s.At lf m r (openStage lf (some r)) →
    d.valid lf m = true → d.fitsIn r = true → s.dst.Fresh s.curSlot → s.Feeds (d.bytes lf m) →
    s.Decodes (d.bytes lf m) (d.stored s.curSlot s.dst)
  | .list et es, r, s, h, hvalid, hfit, hfresh, hx => by
    obtain ⟨ecap, ed, rfl, hcap, hfit⟩ := SendDesc.fitsIn_list hfit
    have hparts := hvalid
    simp only [SendDesc.valid, Bool.and_eq_true] at hparts
    obtain ⟨⟨_, helems⟩, _⟩ := hparts
    exact h.decodes_list (SendElems.decodes helems hfit) hcap hvalid hfresh hx
  | .u8 _, _, _, h, hvalid, hfit, hfresh, hx | .u16be _, _, _, h, hvalid, hfit, hfresh, hx
  | .u16le _, _, _, h, hvalid, hfit, hfresh, hx | .u32be _, _, _, h, hvalid, hfit, hfresh, hx
  | .u32le _, _, _, h, hvalid, hfit, hfresh, hx | .span _, _, _, h, hvalid, hfit, hfresh, hx
  | .nullterm _, _, _, h, hvalid, hfit, hfresh, hx | .reserved _, _, _, h, hvalid, hfit, hfresh, hx =>
    SendDesc.decodes_leaf nofun h hvalid hfit hfresh hx
theorem SendElems.decodes : ∀ {es : SendElems} {et : BitVec 4} {ed : RecvDesc}, es.valid lf m et = true → es.fitIn ed = true →
    es.Decodable lf m ed
  | .nil, _, _, _, _, _, _, rest, _, _, hk, hexp, _, _ => State.atElem_end rest hk hexp
  | .cons d es, et, ed, hvalid, hfit, s, f, rest, h, hr, hk, hexp, hfresh, hx => by
    simp only [SendElems.valid, Bool.and_eq_true] at hvalid
    obtain ⟨⟨_, hvd⟩, hves⟩ := hvalid
    simp only [SendElems.fitIn, Bool.and_eq_true] at hfit
    obtain ⟨hfd, hfes⟩ := hfit
    rw [SendElems.bytes_cons] at hexp hx ⊢
    rw [List.length_append] at hexp
    rw [SendElems.length] at hk
    have hslot : (s.openItem s.cur.p (f :: rest)).curSlot = slotOf s.cur.p rest ++ [f.j] := slotOf_cons ..
    have helem := SendDesc.decodes (h.openItem hr) hvd hfd (hslot ▸ hfresh f.j le_rfl) hx.left
    rw [hslot] at helem
    refine h.atElem_next (by omega) hx helem fun t ht hrp hp hdst hfeed => ?_
    have hrest := SendElems.decodes hves hfes (f := { f.counted (d.bytes lf m).length with j := f.j + 1 })
      (rest := rest.map (Frame.counted (d.bytes lf m).length)) ht (by rw [hrp, hp, List.length_map, hr])
      ((Nat.succ_add_eq_add_succ ..).trans hk) (hexp.counted _) ?_ hfeed
    · rwa [slotOf_counted, hp, hdst] at hrest
    · intro i hi
      rw [slotOf_counted, hp, hdst]
      exact (hfresh i (Nat.le_of_succ_le hi)).stored d (Nat.ne_of_gt hi)
end

end Sys2Proof.Machine
end

section
/-! The inverse law (43_param_decode.md R182). -/

namespace Sys2Proof.Machine

open Sys2Proof.Config

/-- After the bytes of a parameter the next one is opened, or the END check (41_frame_codec.md R134). -/
theorem State.readBytes_openTop (s : State) (bs : List Byte) (c : Cursor) (d : Dests) (p : Nat) :
    ∃ c' : Cursor, c'.p = p ∧ c'.stack = [] ∧ c'.i = 0 ∧
      (s.readBytes bs c d).openTop p =
        { s.readBytes bs c' d with fsm := if p < s.rp.length then .rxParam else .rxEnd } := by
  refine ⟨((s.readBytes bs c d).openTop p).cur, ?_⟩
  unfold State.openTop State.openItem
  rw [State.readBytes_rp]
  split <;> exact ⟨rfl, rfl, rfl, rfl⟩

/-- Settles O52: a value's bytes are decoded at its item by induction over the descriptor; below no sub-list the item's end opens
the next parameter, or the END check. -/
theorem inverseLaw : Obligations.InverseLaw := by
  intro s d r more hq hf hr hstack hi hheld hstage hdst hvalid hfit hx
  have hslot : s.curSlot = [s.cur.p] := by rw [State.curSlot, hstack]; rfl
  have hat : s.At s.build.listForm s.cl.rmode r (openStage s.build.listForm (some r)) := {
    noHost := hq
    fsm_eq := hf
    form_eq := rfl
    mode_eq := rfl
    desc := by rw [State.curDesc, hstack, slotDesc, hr]; rfl
    stage_eq := hstage
    i_eq := hi
    held_eq := hheld }
  have hdec := SendDesc.decodes hat hvalid hfit (hslot ▸ Dests.fresh_of_head hdst) ⟨more, hx.symm⟩
  rw [hslot] at hdec
  obtain ⟨c, hp, hrun⟩ := hdec
  obtain ⟨c', hp', hstack', hi', hopen⟩ := State.readBytes_openTop s (d.bytes s.build.listForm s.cl.rmode) c
    (d.stored [s.cur.p] s.dst) (s.cur.p + 1)
  rw [SendDesc.bytes_length, hstack, List.map_nil, State.advance, State.readBytes_cur, hp, hopen] at hrun
  have hdrop : s.env.xchgIn.drop (d.bytes s.build.listForm s.cl.rmode).length = more := by simp [hx]
  exact ⟨_, hrun, rfl, rfl, hp', hstack', hi', congrArg (fun l => { s.env with xchgIn := l }) hdrop, rfl, rfl⟩

end Sys2Proof.Machine
end

section
/-! A failed line write of the peer reset (44_transaction.md R196). -/

namespace Sys2Proof.Machine

open Sys2Proof.Config

/-- A TRANSPORT abort of another operation than EXECUTE leaves the receive destinations as they were (44_transaction.md R194). -/
theorem State.abort_transport_eq {s : State} {e : IoErr} (hop : s.cl.op ≠ 0x2) :
    s.abort (.transport e) = { s with
      status := s.status.completed .transport 0
      terr := e
      err := none
      fsm := .done
      log := s.log ++ [.complete (s.status.completed .transport 0).toWord] } := by
  have hexec : ¬ (ErrCode.transport ≠ .ok ∧ s.cl.op = 0x2) := fun h => hop h.2
  have hd : destsAfter .transport s.cl.op s.dst = s.dst := if_neg hexec
  have hu : unspecAfter .transport s.cl.op s.dstUnspec = s.dstUnspec := if_neg hexec
  rw [State.abort_eq]
  simp only [State.abort_transport, Failure.code, Failure.byte, hd, hu]

/-- A write changes its own line, the peer's draws and the LOG (10_state.md R33). -/
theorem State.wrote_eq (s : State) (l : Line) (level : Bool) (d : WriteDraw) :
    s.wrote l level d = { s with
      selectN := if l = .selectN then writeLevel level d else s.selectN
      resetN := if l = .resetN then writeLevel level d else s.resetN
      env := s.env.dropWrite
      log := s.log ++ [.write l level (writeFailure d)] } := by
  cases l <;> rfl

/-- A failed write of either line, whatever state would come next: the operation completes at once (40_handshake.md R117). -/
theorem resetWrite_fail {s : State} {e : IoErr} {l : Bool} (hop : s.cl.op ≠ 0x2) (hw : s.env.write = .fail e l)
    (line : Line) (level : Bool) (after : Fsm) :
    resetWrite line level after s = { s with
      selectN := if line = .selectN then l else s.selectN
      resetN := if line = .resetN then l else s.resetN
      status := s.status.completed .transport 0
      terr := e
      env := s.env.dropWrite
      err := none
      fsm := .done
      log := s.log ++ [.write line level (some e), .complete (s.status.completed .transport 0).toWord] } := by
  have hop' : (s.wrote line level (.fail e l)).cl.op ≠ 0x2 := by rwa [State.wrote_cl]
  simp only [resetWrite, hw, State.abort_transport_eq hop']
  simp only [State.wrote_eq, writeLevel, writeFailure, List.append_assoc, List.cons_append, List.nil_append]

/-- Settles O16: each of the three states is one `resetWrite`, which a failed write completes. -/
theorem resetPeerStops : Obligations.ResetPeerStops := by
  intro s e l hq hop hw x hx hf
  have hop' : s.cl.op ≠ 0x2 := by rw [hop]; decide
  refine ⟨_, rfl, ?_⟩
  rw [step_block hq, blockStep, hf]
  simp only [List.mem_cons, List.not_mem_nil, or_false] at hx
  obtain rfl | rfl | rfl := hx
  case inl => exact congrArg _ (resetWrite_fail hop' hw .selectN true .rpRlow)
  case inr.inl => exact congrArg _ (resetWrite_fail hop' hw .resetN false .rpPulse)
  case inr.inr => exact congrArg _ (resetWrite_fail hop' hw .resetN true .rpBoot)

end Sys2Proof.Machine
end

section
/-! The code words of the four media and their instructions correspond one to one at each site (30_encoding.md R80 to R98). -/

namespace Sys2Proof

open Sys2Proof.Config

/-! ### Command words -/

section
variable (rb : BitVec 1) (cmd : BitVec 7) (rsv : BitVec 2) (rmode smode : Mode) (op : BitVec 4)

@[simp] theorem cmdwRb_cmdwWord : cmdwRb (cmdwWord rb cmd rsv rmode smode op) = rb := by
  simp (disch := decide) only [cmdwRb, cmdwWord, BitVec.extractLsb'_append_eq_of_le, Nat.reduceSub]
  exact BitVec.extractLsb'_eq_self

/-- RSV alone says which group of rows a word belongs to, bit 6 before bit 7 (30_encoding.md R81, R82). -/
theorem decodeCmdw_cmdwWord :
    decodeCmdw (cmdwWord rb cmd rsv rmode smode op) =
      if rsv.getLsbD 0 then .illegalRsv6 rb cmd (rsv.extractLsb' 1 1) rmode smode op
      else if rsv.getLsbD 1 then .illegalRsv7 rb cmd 0 rmode smode op
      else decodeOp rb cmd rmode smode op := by
  have hrsv := cmdwRsv_cmdwWord rb cmd rsv rmode smode op
  unfold decodeCmdw
  simp only [cmdwRb_cmdwWord, cmdwCmd_cmdwWord, cmdwRmode_cmdwWord, cmdwSmode_cmdwWord, cmdwOp_cmdwWord]
  generalize cmdwWord rb cmd rsv rmode smode op = w at hrsv ⊢
  subst hrsv
  have h6 : (cmdwRsv w).getLsbD 0 = w.getLsbD 6 := BitVec.getLsbD_extractLsb' 6 2 w 0
  have h7 : (cmdwRsv w).getLsbD 1 = w.getLsbD 7 := BitVec.getLsbD_extractLsb' 6 2 w 1
  rw [extractLsb'_one_eq_ofBool, extractLsb'_one_eq_ofBool, h6, h7]

end

/-- The well-formed rows of CMDW overlap nowhere: each is what its own code word decodes to. -/
theorem decodeCmdw_of_encode {i : Instr} {w : Word16} (hwf : i.WellFormed = true) (h : encode i = .cmdw w) :
    decodeCmdw w = i := by
  cases i
  -- the rows of the other media have no CMDW code word
  all_goals cases h
  case illegalRsv6 rb cmd v rm sm op =>
    have h6 : ∀ v : BitVec 1, (v ++ (1 : BitVec 1)).getLsbD 0 = true := by decide
    rw [decodeCmdw_cmdwWord, if_pos (h6 v), BitVec.extractLsb'_append_eq_left]
  case illegalRsv7 rb cmd v rm sm op =>
    obtain rfl : v = 0 := eq_of_beq hwf
    rw [decodeCmdw_cmdwWord]
    rfl
  case resetPeer | execute =>
    rw [decodeCmdw_cmdwWord]
    rfl
  all_goals
    obtain rfl := eq_of_beq hwf
    rw [decodeCmdw_cmdwWord]
    rfl

theorem decodeOp_wellFormed (rb : BitVec 1) (cmd : BitVec 7) (rmode smode : Mode) (op : BitVec 4) :
    (decodeOp rb cmd rmode smode op).WellFormed = true := by
  obtain ⟨⟨n, hn⟩⟩ := op
  interval_cases n <;> rfl

theorem decodeCmdw_wellFormed (w : Word16) : (decodeCmdw w).WellFormed = true := by
  unfold decodeCmdw
  split
  · rfl
  · split
    · rfl
    · exact decodeOp_wellFormed ..

theorem sites_of_encode_cmdw {i : Instr} {w : Word16} (h : encode i = .cmdw w) : i.sites = [.cmdw] := by
  cases i
  all_goals cases h
  all_goals rfl

/-! ### Tags -/

/-- The 16 tags of a send descriptor (30_encoding.md R84). -/
theorem decodeSendTag_spec : ∀ t : BitVec 4, encode (decodeSendTag t) = .tag t ∧ (decodeSendTag t).WellFormed = true ∧
    Site.sendTag ∈ (decodeSendTag t).sites := by decide

/-- The 16 tags of a receive descriptor (30_encoding.md R84). -/
theorem decodeRecvTag_spec : ∀ t : BitVec 4, encode (decodeRecvTag t) = .tag t ∧ (decodeRecvTag t).WellFormed = true ∧
    Site.recvTag ∈ (decodeRecvTag t).sites := by decide

theorem decodeSendTag_reserved : ∀ t : BitVec 3, decodeSendTag (1#1 ++ t) = .tagReserved t := by decide

theorem decodeRecvTag_reserved : ∀ t : BitVec 3, decodeRecvTag (1#1 ++ t) = .tagReserved t := by decide

/-! ### Wire units -/

/-- The command-identifier byte is its reply bit above the operation code (30_encoding.md R88). -/
theorem decodeCmdByte_append (v : BitVec 1) (opc : BitVec 7) :
    decodeCmdByte (v ++ opc) = if v.getLsbD 0 then .wireCmdReply opc else .wireCmdReq opc := by
  have h7 : (v ++ opc).getLsbD 7 = v.getLsbD 0 := BitVec.getLsbD_append
  rw [decodeCmdByte, h7, BitVec.extractLsb'_append_eq_right]

theorem byte_eq_append (b : Byte) : b = BitVec.ofBool (b.getLsbD 7) ++ b.extractLsb' 0 7 := by
  rw [← extractLsb'_one_eq_ofBool, BitVec.extractLsb'_append_extractLsb'_eq_extractLsb' (by decide)]
  exact BitVec.extractLsb'_eq_self.symm

theorem decodeCmdByte_spec (b : Byte) : encode (decodeCmdByte b) = .wire [b] ∧ (decodeCmdByte b).WellFormed = true ∧
    Site.cmdByte ∈ (decodeCmdByte b).sites := by
  have hb := byte_eq_append b
  unfold decodeCmdByte
  split
  case isTrue h =>
    rw [h] at hb
    exact ⟨congrArg (fun c => CodeWord.wire [c]) hb.symm, rfl, List.mem_singleton_self _⟩
  case isFalse h =>
    rw [Bool.eq_false_iff.2 h] at hb
    exact ⟨congrArg (fun c => CodeWord.wire [c]) hb.symm, rfl, List.mem_singleton_self _⟩

/-- The scan byte: the sentinels stand for themselves, and every other byte is a skipped one (41_frame_codec.md R136). -/
theorem decodeScan_spec (b : Byte) : encode (decodeScan b) = .wire [b] ∧ (decodeScan b).WellFormed = true ∧
    Site.scan ∈ (decodeScan b).sites := by
  unfold decodeScan
  split
  case isTrue h => exact h ▸ ⟨rfl, rfl, by decide⟩
  case isFalse hs =>
    split
    case isTrue h => exact h ▸ ⟨rfl, rfl, by decide⟩
    case isFalse he => exact ⟨rfl, by simp [Instr.WellFormed, hs, he], List.mem_singleton_self _⟩

/-- A fixed byte `c` decodes to its row, and no other byte does. -/
theorem fixedByte_spec {b c : Byte} {i j : Instr} {site : Site} {x : Reject} (hi : encode i = .wire [c])
    (hwf : i.WellFormed = true) (hsite : site ∈ i.sites)
    (h : (if b = c then Except.ok i else Except.error x) = Except.ok (ε := Reject) j) :
    encode j = .wire [b] ∧ j.WellFormed = true ∧ site ∈ j.sites := by
  split at h
  case isTrue hb =>
    cases h
    exact ⟨hb ▸ hi, hwf, hsite⟩
  case isFalse => nomatch h

theorem decodeWireByte_spec {site : Site} {b : Byte} {i : Instr} (h : decodeWireByte site b = .ok i) :
    encode i = .wire [b] ∧ i.WellFormed = true ∧ site ∈ i.sites := by
  cases site
  case cmdw | sendTag | recvTag | lenLong => nomatch h
  case start => exact fixedByte_spec rfl rfl (by decide) h
  case nul => exact fixedByte_spec rfl rfl (by decide) h
  case endMark => exact fixedByte_spec rfl rfl (by decide) h
  case pad => exact fixedByte_spec rfl rfl (by decide) h
  case scan =>
    cases h
    exact decodeScan_spec b
  case cmdByte =>
    cases h
    exact decodeCmdByte_spec b
  case count | lenShort | listCount =>
    cases h
    exact ⟨rfl, rfl, List.mem_singleton_self _⟩

/-- A 16-bit value is its high byte above its low byte. -/
theorem word16_eq_append (l : Word16) : l.extractLsb' 8 8 ++ l.extractLsb' 0 8 = l := by
  rw [BitVec.extractLsb'_append_extractLsb'_eq_extractLsb' (by decide)]
  exact BitVec.extractLsb'_eq_self

/-! ### Both directions -/

/-- Settles O1: per medium: a command word by its RSV and OP, a tag by the tables, a wire unit by its site. -/
theorem decodeEncode : Obligations.DecodeEncode := by
  intro i hwf site hsite
  cases i
  case tagReserved t =>
    obtain rfl | rfl : site = .sendTag ∨ site = .recvTag := by simpa [Instr.sites] using hsite
    · exact congrArg Except.ok (decodeSendTag_reserved t)
    · exact congrArg Except.ok (decodeRecvTag_reserved t)
  case wireStart =>
    obtain rfl | rfl : site = .start ∨ site = .scan := by simpa [Instr.sites] using hsite
    · rfl
    · rfl
  -- every other instruction has one site
  all_goals obtain rfl := List.mem_singleton.1 hsite
  case wireSkip b =>
    simp only [Instr.WellFormed, Bool.and_eq_true, bne_iff_ne] at hwf
    exact congrArg Except.ok (Machine.decodeScan_other hwf.1 hwf.2)
  case wireCmdReq opc => exact congrArg Except.ok (decodeCmdByte_append 0 opc)
  case wireCmdReply opc => exact congrArg Except.ok (decodeCmdByte_append 1 opc)
  case wireLenLong l => exact congrArg (fun v => Except.ok (Instr.wireLenLong v)) (word16_eq_append l)
  case encU8 | encU16BE | encU16LE | encU32BE | encU32LE | encSpan | encNullterm | encList => rfl
  case decU8 | decU16BE | decU16LE | decU32BE | decU32LE | decSpan | decNullterm | decList => rfl
  case wireErr | wireEnd | wireCount | wireLenShort | wireListCount | wireNul | wirePad => rfl
  -- the rows of CMDW
  all_goals exact congrArg Except.ok (decodeCmdw_of_encode hwf rfl)

theorem decode_cmdw_spec {site : Site} {w : Word16} {i : Instr} (h : decode site (.cmdw w) = .ok i) :
    encode i = .cmdw w ∧ i.WellFormed = true ∧ site ∈ i.sites := by
  rw [decode] at h
  split at h
  case isTrue hs =>
    cases h
    rw [hs, sites_of_encode_cmdw (encode_decodeCmdw w)]
    exact ⟨encode_decodeCmdw w, decodeCmdw_wellFormed w, List.mem_singleton_self _⟩
  case isFalse => nomatch h

theorem decode_tag_spec {site : Site} {t : BitVec 4} {i : Instr} (h : decode site (.tag t) = .ok i) :
    encode i = .tag t ∧ i.WellFormed = true ∧ site ∈ i.sites := by
  rw [decode] at h
  split at h
  case isTrue hs =>
    cases h
    exact hs ▸ decodeSendTag_spec t
  case isFalse =>
    split at h
    case isTrue hs =>
      cases h
      exact hs ▸ decodeRecvTag_spec t
    case isFalse => nomatch h

/-- A unit of two bytes is a long prefix, most significant byte first (30_encoding.md R93). -/
theorem decode_wire_pair_spec {site : Site} {b0 b1 : Byte} {i : Instr} (h : decode site (.wire [b0, b1]) = .ok i) :
    encode i = .wire [b0, b1] ∧ i.WellFormed = true ∧ site ∈ i.sites := by
  rw [decode] at h
  split at h
  case isTrue hs =>
    cases h
    rw [hs, encode, BitVec.extractLsb'_append_eq_left, BitVec.extractLsb'_append_eq_right]
    exact ⟨rfl, rfl, List.mem_singleton_self _⟩
  case isFalse => split at h <;> nomatch h

theorem decode_wire_ne_ok {site : Site} {bs : List Byte} {i : Instr} (h1 : bs.length ≠ 1) (h2 : bs.length ≠ 2) :
    decode site (.wire bs) ≠ .ok i := by
  match bs with
  | [] =>
    simp only [decode]
    split <;> nofun
  | [_] => exact absurd rfl h1
  | [_, _] => exact absurd rfl h2
  | _ :: _ :: _ :: _ =>
    simp only [decode]
    split <;> nofun

/-- Settles O2: a word that is accepted fixes its medium and its length, and each decoder is undone by the encoder. -/
theorem encodeDecode : Obligations.EncodeDecode := by
  intro site c i h
  match c with
  | .cmdw w => exact decode_cmdw_spec h
  | .tag t => exact decode_tag_spec h
  | .wire [b] => exact decodeWireByte_spec h
  | .wire [b0, b1] => exact decode_wire_pair_spec h
  | .wire [] => exact absurd h (decode_wire_ne_ok (by decide) (by decide))
  | .wire (_ :: _ :: _ :: _) => exact absurd h (decode_wire_ne_ok nofun nofun)

/-- Settles O4: each sample by evaluation of the decoder. -/
theorem decodeSamples : Obligations.DecodeSamples := by
  refine ⟨?_, ?_, ?_, ?_, ?_, ?_, ?_, ?_⟩ <;> decide

end Sys2Proof
end

section
/-! What one step can do: a move of the block, or an action of the host (10_state.md R36, 44_transaction.md R198, R199). -/

namespace Sys2Proof.Machine

open Sys2Proof.Config

/-! ### A byte read outside the parameters -/

/-- How a byte of the reply outside the parameters is judged (41_frame_codec.md R135 to R139). -/
def Fsm.judge : Fsm → Option (State → Byte → State)
  | .rxScan => some State.scanByte
  | .rxCmd => some State.checkCmd
  | .rxCount => some State.checkCount
  | .rxEnd => some State.checkEnd
  | _ => none

/-- `ReadByte()` outside a parameter (40_handshake.md R112), then the judgement of the byte. -/
def readReply (f : State → Byte → State) (s : State) : State :=
  match s.env.xchg with
  | .ok b => f (s.exchanged s.build.rxFill (.ok b)) b
  | .fail e => readFailed e s

theorem readReply_ok {s : State} {b : Byte} (f : State → Byte → State) (h : s.env.xchg = .ok b) :
    readReply f s = f (s.exchanged s.build.rxFill (.ok b)) b := by
  simp only [readReply, h]

theorem readReply_fail {s : State} {e : IoErr} (f : State → Byte → State) (h : s.env.xchg = .fail e) :
    readReply f s = readFailed e s := by
  simp only [readReply, h]

theorem receive_of_judge {s : State} {f : State → Byte → State} (h : s.fsm.judge = some f) (b : Byte) (mn : String) :
    receive b mn s = .next (f (s.exchanged s.build.rxFill (.ok b)) b) := by
  cases hf : s.fsm <;> rw [hf] at h <;> cases h <;> simp only [receive, hf]

/-- Whatever the site decodes the byte to, it is the byte that the block's position judges. -/
theorem replyStep_of_judge {s : State} {f : State → Byte → State} (h : s.fsm.judge = some f) (site : Site) :
    replyStep site s = .next (readReply f s) := by
  have htx : s.fsm ≠ .tx := fun htx => by simp [htx, Fsm.judge] at h
  unfold replyStep
  split
  case h_1 e he => rw [readReply_fail f he]
  case h_2 b hb =>
    rw [readReply_ok f hb]
    split
    case h_1 i hi =>
      obtain ⟨mn, hexec⟩ := exec_receives_of_encode_wire (decodeWireByte_spec hi).1 htx
      rw [hexec, receive_of_judge h]
    case h_2 => exact receive_of_judge h b _

/-! ### The moves of the block -/

/-- The sequencer's states that meet no code word (40_handshake.md R113, R114, R116, R117). -/
def Fsm.handshake : Fsm → Option (State → State)
  | .rpSel => some rpSelStep
  | .rpRlow => some rpRlowStep
  | .rpPulse => some rpPulseStep
  | .rpRhigh => some rpRhighStep
  | .rpBoot => some rpBootStep
  | .acqNr => some acqNrStep
  | .acqR => some acqRStep
  | .acqSel => some acqSelStep
  | .rel => some relStep
  | _ => none

/-- What a step of the block can do. -/
inductive State.BlockMove (s : State) : State → Prop
  | wait : s.fsm = .idle ∨ s.fsm = .done → s.BlockMove s
  | handshake {f : State → State} : s.fsm.handshake = some f → s.BlockMove (f s)
  | send {i : Instr} {b : Byte} : s.fsm = .tx → s.nextUnit = some (i, b) → s.BlockMove (s.sendByte b)
  | judge {f : State → Byte → State} : s.fsm.judge = some f → s.BlockMove (readReply f s)
  | param {r : RecvDesc} {f : Byte → State → State} : s.fsm = .rxParam → s.curDesc = some r → r.rule = some f →
      s.BlockMove (readParam f s)

theorem blockStep_of_handshake {s : State} {f : State → State} (h : s.fsm.handshake = some f) :
    blockStep s = .next (f s) := by
  cases hf : s.fsm <;> rw [hf] at h <;> cases h <;> simp only [blockStep, hf]

theorem blockStep_of_judge {s : State} {f : State → Byte → State} (h : s.fsm.judge = some f) :
    blockStep s = .next (readReply f s) := by
  have hreply := replyStep_of_judge h
  cases hf : s.fsm <;> rw [hf] at h <;> cases h <;> simp only [blockStep, hf] <;> exact hreply _

theorem blockStep_tx {s : State} (hf : s.fsm = .tx) : blockStep s = requestStep s := by
  simp only [blockStep, hf]

theorem blockStep_rxParam {s : State} (hf : s.fsm = .rxParam) : blockStep s = paramStep s := by
  simp only [blockStep, hf]

/-- A receive descriptor without a rule has a reserved tag. -/
theorem RecvDesc.rule_eq_none {r : RecvDesc} (h : r.rule = none) : ∃ t, r = .reserved t := by
  cases r with
  | reserved t => exact ⟨t, rfl⟩
  | _ => nomatch h

/-- Inside the parameters a reserved tag has no meaning: no issue check is due (30_encoding.md R85). -/
theorem execTagReserved_refused {s : State} (t : BitVec 3) (hf : s.fsm = .rxParam) :
    execTagReserved t s = .refused (.outOfPosition "TAG.RESERVED") := by
  have hcheck : s.atIssueCheck = false := by simp [State.atIssueCheck, hf]
  rw [execTagReserved, hcheck, if_neg (fun h => Bool.false_ne_true h.1)]

theorem paramStep_next {s t : State} (hf : s.fsm = .rxParam) (h : paramStep s = .next t) : s.BlockMove t := by
  unfold paramStep at h
  split at h
  case h_1 r hr =>
    cases hrule : r.rule with
    | some f =>
      rw [exec_decodeRecvTag hf hr hrule] at h
      cases h
      exact .param hf hr hrule
    | none =>
      obtain ⟨x, rfl⟩ := RecvDesc.rule_eq_none hrule
      have htag : decodeRecvTag (RecvDesc.reserved x).tag = .tagReserved x := decodeRecvTag_reserved x
      rw [htag, show exec (.tagReserved x) s = execTagReserved x s from rfl, execTagReserved_refused x hf] at h
      nomatch h
  case h_2 => nomatch h

theorem requestStep_next {s t : State} (hf : s.fsm = .tx) (h : requestStep s = .next t) : s.BlockMove t := by
  unfold requestStep at h
  split at h
  case h_1 i b hn =>
    rw [exec_of_nextUnit hf hn] at h
    cases h
    exact .send hf hn
  case h_2 => nomatch h

/-- The block's step answers a next state exactly by one of its moves. -/
theorem blockStep_eq_next_iff {s t : State} : blockStep s = .next t ↔ s.BlockMove t := by
  refine ⟨fun h => ?step, fun h => ?move⟩
  case step =>
    cases hf : s.fsm
    case idle => rw [blockStep, hf] at h; cases h; exact .wait (.inl hf)
    case done => rw [blockStep, hf] at h; cases h; exact .wait (.inr hf)
    case halted => rw [blockStep, hf] at h; nomatch h
    case tx => exact requestStep_next hf (blockStep_tx hf ▸ h)
    case rxParam => exact paramStep_next hf (blockStep_rxParam hf ▸ h)
    case rxScan | rxCmd | rxCount | rxEnd =>
      have hj : ∃ f, s.fsm.judge = some f := by rw [hf]; exact ⟨_, rfl⟩
      obtain ⟨f, hj⟩ := hj
      rw [blockStep_of_judge hj] at h
      cases h
      exact .judge hj
    all_goals
      have hh : ∃ f, s.fsm.handshake = some f := by rw [hf]; exact ⟨_, rfl⟩
      obtain ⟨f, hh⟩ := hh
      rw [blockStep_of_handshake hh] at h
      cases h
      exact .handshake hh
  case move =>
    cases h with
    | wait hf => obtain hf | hf := hf <;> simp only [blockStep, hf]
    | handshake hf => exact blockStep_of_handshake hf
    | send hf hn => rw [blockStep_tx hf, requestStep, hn]; exact exec_of_nextUnit hf hn
    | judge hf => exact blockStep_of_judge hf
    | param hf hr hrule => rw [blockStep_rxParam hf, paramStep, hr]; exact exec_decodeRecvTag hf hr hrule

/-! ### The actions of the host -/

/-- What an action of the host can do to the state it is taken from. -/
inductive State.HostMove (s : State) : HostAct → State → Prop
  | ignored {a : HostAct} : s.HostMove a s
  | read {a : HostAct} (x : HostRead) : s.HostMove a (s.hostRead x)
  | issue {w : Word16} : s.fsm ≠ .halted → s.status.busy = false → s.breaksH1 w = false →
      s.HostMove (.writeReg .cmdw w)
        (operationOf (cmdwRsv w) (cmdwOp w) (s.latched w (latchOf (cmdwCmd w) (cmdwRmode w) (cmdwSmode w) (cmdwOp w))))
  | send {l : List SendDesc} : s.status.busy = false → l.length ≤ 255 →
      s.HostMove (.send l) { s with sp := l, spWritten := true }
  | recv {l : List RecvDesc} : s.status.busy = false → l.length ≤ 255 →
      s.HostMove (.recv l) { s with rp := l, dst := [], dstUnspec := false, rpWritten := true }

theorem writeReg_next {s t : State} {r : HostReg} {w : Word16} (h : writeReg r w s = .next t) :
    s.HostMove (.writeReg r w) t := by
  cases r with
  | cmdw =>
    rw [writeReg] at h
    split at h
    case isTrue => nomatch h
    case isFalse hbusy =>
      split at h
      case isTrue => nomatch h
      case isFalse hh1 =>
        rw [exec_of_encode_cmdw (encode_decodeCmdw w)] at h
        by_cases hf : s.fsm = .halted
        · rw [issue_ignored _ _ _ (.inl hf)] at h
          cases h
          exact .ignored
        · rw [issue_taken _ _ _ hf (Bool.eq_false_iff.2 hbusy)] at h
          cases h
          exact .issue hf (Bool.eq_false_iff.2 hbusy) (Bool.eq_false_iff.2 hh1)
  | status | terr => cases h; exact .ignored

theorem writeSend_next {s t : State} {l : List SendDesc} (h : writeSend l s = .next t) : s.HostMove (.send l) t := by
  unfold writeSend at h
  split_ifs at h with hbusy hlen
  cases h
  exact .send (Bool.eq_false_iff.2 hbusy) (Nat.le_of_not_lt hlen)

theorem writeRecv_next {s t : State} {l : List RecvDesc} (h : writeRecv l s = .next t) : s.HostMove (.recv l) t := by
  unfold writeRecv at h
  split_ifs at h with hbusy hlen
  cases h
  exact .recv (Bool.eq_false_iff.2 hbusy) (Nat.le_of_not_lt hlen)

theorem readReg_next {s t : State} {r : HostReg} (h : readReg r s = .next t) : ∃ x, t = s.hostRead x := by
  cases r with
  | cmdw | status => cases h; exact ⟨_, rfl⟩
  | terr =>
    unfold readReg at h
    split_ifs at h
    cases h
    exact ⟨_, rfl⟩

theorem State.readWritten_next {s t : State} {v : Option HostRead} (h : s.readWritten v = .next t) :
    ∃ x, t = s.hostRead x := by
  unfold State.readWritten at h
  split at h
  · split_ifs at h
    cases h
    exact ⟨_, rfl⟩
  · split_ifs at h

/-- Every step is a move of the block, or takes the host's next action. -/
theorem step_cases {s t : State} (h : step s = .next t) :
    (∃ rest, rest <:+ s.hostq ∧ State.BlockMove { s with hostq := rest } t) ∨
      ∃ a rest, s.hostq = a :: rest ∧ State.HostMove { s with hostq := rest } a t := by
  simp only [step, stepOnce] at h
  split at h
  case h_1 hq => exact .inl ⟨s.hostq, List.suffix_refl _, blockStep_eq_next_iff.1 h⟩
  case h_2 hq => exact .inr ⟨_, _, hq, writeReg_next h⟩
  case h_3 hq => exact .inr ⟨_, _, hq, writeSend_next h⟩
  case h_4 hq => exact .inr ⟨_, _, hq, writeRecv_next h⟩
  case h_5 hq =>
    obtain ⟨x, rfl⟩ := readReg_next h
    exact .inr ⟨_, _, hq, .read x⟩
  case h_6 hq =>
    obtain ⟨x, rfl⟩ := State.readWritten_next h
    exact .inr ⟨_, _, hq, .read x⟩
  case h_7 hq =>
    obtain ⟨x, rfl⟩ := State.readWritten_next h
    exact .inr ⟨_, _, hq, .read x⟩
  case h_8 hq =>
    split_ifs at h
    · cases h
      exact .inr ⟨_, _, hq, .ignored⟩
    · exact .inl ⟨s.hostq, List.suffix_refl _, blockStep_eq_next_iff.1 h⟩
  case h_9 hq => exact .inl ⟨_, hq ▸ List.suffix_cons .., blockStep_eq_next_iff.1 h⟩

end Sys2Proof.Machine
end

section
/-! What no step of the block changes, and which events it logs (00_scope.md R7, 10_state.md R45, 20_memory.md R63). -/

namespace Sys2Proof.Machine

open Sys2Proof.Config

/-! ### What is kept -/

/-- The fields that the block never writes. -/
def State.fixed (s : State) :
    Build × CmdLatch × List SendDesc × List RecvDesc × Bool × Bool × List HostAct × List HostRead :=
  (s.build, s.cl, s.sp, s.rp, s.spWritten, s.rpWritten, s.hostq, s.hostLog)

/-- From `s` to `t` the block has kept what it never writes, and has logged only events that meet `p`. -/
structure State.Keeps (p : Event → Bool) (s t : State) : Prop where
  fixed_eq : t.fixed = s.fixed
  log_adds : ∃ added, t.log = s.log ++ added ∧ added.all p = true

/-- An event that is no exchange. -/
def Event.silent (e : Event) : Bool := !e.isXchg

theorem Fsm.inReply_of_judge {x : Fsm} {f : State → Byte → State} (h : x.judge = some f) : x.inReply = true := by
  cases x <;> cases h <;> rfl

namespace State

variable {p : Event → Bool} {s t u : State}

theorem Keeps.of_log_eq (hf : t.fixed = s.fixed) (hl : t.log = s.log) : s.Keeps p t :=
  ⟨hf, [], by rw [hl, List.append_nil], rfl⟩

theorem Keeps.of_event {e : Event} (he : p e = true) (hf : t.fixed = s.fixed) (hl : t.log = s.log ++ [e]) : s.Keeps p t :=
  ⟨hf, [e], hl, by rw [List.all_cons, he]; rfl⟩

theorem Keeps.refl (s : State) : s.Keeps p s := .of_log_eq rfl rfl

theorem Keeps.trans (h : s.Keeps p t) (h' : t.Keeps p u) : s.Keeps p u := by
  obtain ⟨a, ha, hpa⟩ := h.log_adds
  obtain ⟨b, hb, hpb⟩ := h'.log_adds
  exact ⟨h'.fixed_eq.trans h.fixed_eq, a ++ b, by rw [hb, ha, List.append_assoc], by rw [List.all_append, hpa, hpb]; rfl⟩

/-- Nothing is to be said of fields outside LOG and the fixed ones. -/
theorem Keeps.of_moved (h : u.Keeps p t) (hf : u.fixed = s.fixed) (hl : u.log = s.log) : s.Keeps p t :=
  (Keeps.of_log_eq hf hl).trans h

theorem Keeps.mono {q : Event → Bool} (h : s.Keeps p t) (hpq : ∀ e, p e = true → q e = true) : s.Keeps q t := by
  obtain ⟨added, ha, hall⟩ := h.log_adds
  exact ⟨h.fixed_eq, added, ha, List.all_eq_true.2 fun e he => hpq e (List.all_eq_true.1 hall e he)⟩

/-! ### The named operations -/

theorem keeps_failPhase (s : State) (f : Failure) : s.Keeps p (s.failPhase f) := .of_log_eq rfl rfl

theorem keeps_goto (s : State) (f : Fsm) : s.Keeps p (s.goto f) := .of_log_eq rfl rfl

theorem keeps_exchanged (s : State) (b : Byte) (d : XchgDraw) (h : p (.xchg b d) = true) : s.Keeps p (s.exchanged b d) :=
  .of_event h rfl rfl

theorem keeps_sampled (s : State) (d : ReadyDraw) : s.Keeps Event.silent (s.sampled d) := .of_event rfl rfl rfl

theorem keeps_wrote (s : State) (l : Line) (v : Bool) (d : WriteDraw) : s.Keeps Event.silent (s.wrote l v d) :=
  .of_event (e := .write l v (writeFailure d)) rfl (by cases l <;> rfl) (wrote_log ..)

theorem keeps_delayed (s : State) (ms : Nat) : s.Keeps Event.silent (s.delayed ms) := .of_event rfl rfl rfl

theorem keeps_complete (s : State) (c : ErrCode) (b : Byte) : s.Keeps Event.silent (s.complete c b) :=
  .of_event rfl rfl rfl

theorem keeps_abort (s : State) (f : Failure) : s.Keeps Event.silent (s.abort f) := by
  rw [abort_eq]
  exact .of_event rfl rfl rfl

theorem keeps_takeFault (s : State) (b : Byte) : s.Keeps Event.silent (s.takeFault b) := .of_event rfl rfl rfl

/-! ### The handshake -/

theorem keeps_resetWrite (line : Line) (level : Bool) (after : Fsm) (s : State) :
    s.Keeps Event.silent (resetWrite line level after s) := by
  unfold resetWrite
  split
  · exact (keeps_wrote ..).trans (keeps_goto ..)
  · exact (keeps_wrote ..).trans (keeps_abort ..)

theorem keeps_acqNrStep (s : State) : s.Keeps Event.silent (acqNrStep s) := by
  unfold acqNrStep
  split
  · exact keeps_sampled ..
  · exact (keeps_sampled ..).trans (keeps_goto ..)
  · exact (keeps_sampled ..).trans (keeps_failPhase ..)

theorem keeps_acqRStep (s : State) : s.Keeps Event.silent (acqRStep s) := by
  unfold acqRStep
  split
  · exact (keeps_sampled ..).trans (keeps_goto ..)
  · exact keeps_sampled ..
  · exact (keeps_sampled ..).trans (keeps_failPhase ..)

theorem keeps_startBody (s : State) : s.Keeps p s.startBody := by
  unfold startBody startScan
  split
  · exact .of_log_eq rfl rfl
  · split <;> exact .of_log_eq rfl rfl

theorem keeps_acqSelStep (s : State) : s.Keeps Event.silent (acqSelStep s) := by
  unfold acqSelStep
  split
  · exact (keeps_wrote ..).trans (keeps_startBody _)
  · exact (keeps_wrote ..).trans (keeps_failPhase ..)

theorem keeps_phaseDone (s : State) : s.Keeps Event.silent s.phaseDone := by
  unfold phaseDone
  split
  · exact .of_log_eq rfl rfl
  · exact keeps_complete ..

theorem keeps_relStep (s : State) : s.Keeps Event.silent (relStep s) := by
  unfold relStep
  split
  · exact (keeps_wrote ..).trans (keeps_phaseDone _)
  all_goals exact (keeps_wrote ..).trans (keeps_abort ..)

theorem keeps_handshake {f : State → State} (h : s.fsm.handshake = some f) : s.Keeps Event.silent (f s) := by
  cases hf : s.fsm <;> rw [hf] at h <;> cases h
  case rpSel | rpRlow | rpRhigh => exact keeps_resetWrite ..
  case rpPulse => exact (keeps_delayed ..).trans (keeps_goto ..)
  case rpBoot => exact (keeps_delayed ..).trans (keeps_complete ..)
  case acqNr => exact keeps_acqNrStep s
  case acqR => exact keeps_acqRStep s
  case acqSel => exact keeps_acqSelStep s
  case rel => exact keeps_relStep s

/-! ### The request -/

theorem keeps_sendByte (s : State) (b : Byte) : s.Keeps (fun _ => true) (s.sendByte b) := by
  cases h : s.env.xchg with
  | ok r =>
    rw [sendByte_ok b h]
    exact .of_event rfl rfl rfl
  | fail e =>
    rw [sendByte_fail b h]
    exact .of_event rfl rfl rfl

/-! ### The reply -/

theorem keeps_openTop (s : State) (n : Nat) : s.Keeps p (s.openTop n) := by
  rw [openTop_frame]
  exact .of_log_eq rfl rfl

theorem keeps_advance (s : State) (stack : List Frame) : s.Keeps p (s.advance stack) := by
  rw [(advance_frame stack s).1]
  exact .of_log_eq rfl rfl

theorem keeps_finishWith (s : State) (l : Leaf) : s.Keeps p (s.finishWith l) := by
  rw [(finishWith_spec s l).2.2]
  exact .of_log_eq rfl rfl

theorem keeps_judge {f : State → Byte → State} (h : s.fsm.judge = some f) (u : State) (b : Byte) : u.Keeps p (f u b) := by
  cases hf : s.fsm <;> rw [hf] at h <;> cases h
  case rxScan =>
    unfold scanByte scanSkip
    split_ifs <;> exact .of_log_eq rfl rfl
  case rxCmd =>
    unfold checkCmd
    split_ifs
    · exact keeps_failPhase ..
    · exact keeps_goto ..
    · exact keeps_openTop ..
  case rxCount =>
    unfold checkCount
    split_ifs
    · exact keeps_failPhase ..
    · exact keeps_openTop ..
  case rxEnd =>
    unfold checkEnd
    split_ifs
    · exact keeps_failPhase ..
    · exact keeps_goto ..

theorem keeps_readLen {k : State → State} (hk : ∀ u : State, u.Keeps p (k u)) (s : State) (b : Byte) :
    s.Keeps p (s.readLen b k) := by
  have hlen (l : Word16) : s.Keeps p (k { s with cur := { s.cur with len := l } }) :=
    (hk _).of_moved rfl rfl
  unfold readLen
  split
  · exact hlen _
  · split
    · exact hlen _
    · exact .of_log_eq rfl rfl

theorem keeps_recvScalar (n : Nat) (asm : List Byte → Leaf) (b : Byte) (s : State) : s.Keeps p (recvScalar n asm b s) := by
  unfold recvScalar
  split
  case isTrue =>
    refine keeps_readLen (fun u => ?_) s b
    split_ifs <;> exact .of_log_eq rfl rfl
  case isFalse =>
    simp only
    split_ifs
    · exact .of_log_eq rfl rfl
    · exact keeps_finishWith ..

theorem keeps_recvSpan (cap : Nat) (b : Byte) (s : State) : s.Keeps p (recvSpan cap b s) := by
  unfold recvSpan
  split
  case isTrue =>
    refine keeps_readLen (fun u => ?_) s b
    split_ifs
    · exact keeps_failPhase ..
    · exact keeps_finishWith ..
    · exact .of_log_eq rfl rfl
  case isFalse =>
    simp only
    split_ifs
    · exact .of_log_eq rfl rfl
    · exact (keeps_finishWith ..).of_moved rfl rfl

theorem keeps_recvNullterm (cap : Nat) (b : Byte) (s : State) : s.Keeps Event.silent (recvNullterm cap b s) := by
  unfold recvNullterm
  split
  case isTrue =>
    refine keeps_readLen (fun u => ?_) s b
    split_ifs <;> exact .of_log_eq rfl rfl
  case isFalse =>
    split_ifs
    · exact .of_log_eq rfl rfl
    · exact keeps_takeFault ..
    · exact keeps_finishWith ..

theorem keeps_recvList (ecap : Nat) (b : Byte) (s : State) : s.Keeps p (recvList ecap b s) := by
  unfold recvList
  split
  case isTrue => exact keeps_readLen (fun u => .of_log_eq (t := u.toStage .count) rfl rfl) s b
  case isFalse =>
    split
    · exact keeps_failPhase ..
    · simp only
      split
      · exact keeps_advance ..
      · exact .of_log_eq rfl rfl

theorem keeps_rule {r : RecvDesc} {f : Byte → State → State} (h : r.rule = some f) (b : Byte) (s : State) :
    s.Keeps Event.silent (f b s) := by
  cases r <;> cases h
  case span => exact keeps_recvSpan ..
  case nullterm => exact keeps_recvNullterm ..
  case list => exact keeps_recvList ..
  all_goals exact keeps_recvScalar ..

/-! ### Every move -/

theorem keeps_readReply {f : State → Byte → State} (h : s.fsm.judge = some f) : s.Keeps (fun _ => true) (readReply f s) := by
  cases hx : s.env.xchg with
  | ok b =>
    rw [readReply_ok f hx]
    exact (keeps_exchanged _ _ _ rfl).trans (keeps_judge h ..)
  | fail e =>
    rw [readReply_fail f hx]
    exact (keeps_exchanged _ _ _ rfl).trans (keeps_failPhase ..)

theorem keeps_consumed (s : State) : s.Keeps p s.consumed := .of_log_eq rfl rfl

theorem keeps_readParam {r : RecvDesc} {f : Byte → State → State} (h : r.rule = some f) (s : State) :
    s.Keeps (fun _ => true) (readParam f s) := by
  cases hx : s.env.xchg with
  | ok b =>
    rw [readParam_ok f hx]
    exact (keeps_exchanged _ _ _ rfl).trans ((keeps_consumed _).trans ((keeps_rule h ..).mono fun _ _ => rfl))
  | fail e =>
    rw [readParam_fail f hx]
    exact .of_event rfl rfl rfl

theorem BlockMove.keeps (h : s.BlockMove t) : s.Keeps (fun _ => true) t := by
  cases h with
  | wait => exact .refl s
  | handshake hf => exact (keeps_handshake hf).mono fun _ _ => rfl
  | send => exact keeps_sendByte ..
  | judge hf => exact keeps_readReply hf
  | param _ _ hrule => exact keeps_readParam hrule s

/-- Only TX and the reply states exchange bytes (40_handshake.md R111, R112). -/
theorem BlockMove.silent_or (h : s.BlockMove t) : s.Keeps Event.silent t ∨ s.fsm = .tx ∨ s.fsm.inReply = true := by
  cases h with
  | wait => exact .inl (.refl s)
  | handshake hf => exact .inl (keeps_handshake hf)
  | send hf => exact .inr (.inl hf)
  | judge hf => exact .inr (.inr (Fsm.inReply_of_judge hf))
  | param hf => exact .inr (.inr (hf ▸ rfl))

/-! ### The host's actions -/

theorem keeps_operationOf (rsv : BitVec 2) (op : BitVec 4) (s : State) :
    s.Keeps Event.silent (operationOf rsv op s) := by
  unfold operationOf
  split_ifs
  · exact keeps_goto ..
  · unfold executeOp
    split_ifs
    · exact .of_log_eq rfl rfl
    · exact keeps_complete ..
  · exact keeps_complete ..

/-- An action of the host exchanges no byte and leaves the build. -/
theorem HostMove.log_adds {a : HostAct} (h : s.HostMove a t) :
    t.build = s.build ∧ ∃ added, t.log = s.log ++ added ∧ added.all Event.silent = true := by
  cases h with
  | ignored | read | send | recv => exact ⟨rfl, [], (List.append_nil _).symm, rfl⟩
  | @issue w =>
    have hop := keeps_operationOf (cmdwRsv w) (cmdwOp w)
      (s.latched w (latchOf (cmdwCmd w) (cmdwRmode w) (cmdwSmode w) (cmdwOp w)))
    obtain ⟨added, hlog, hall⟩ := hop.log_adds
    refine ⟨congrArg Prod.fst hop.fixed_eq, .issue w :: added, ?_, ?_⟩
    · rw [hlog, latched_log, List.append_assoc]
      rfl
    · rw [List.all_cons, hall]
      rfl

end State

/-! ### Every step -/

/-- What a step logs: an exchange only in TX and in the reply states. -/
theorem step_log {s t : State} (h : step s = .next t) :
    t.build = s.build ∧ ∃ added, t.log = s.log ++ added ∧
      (added.all Event.silent = true ∨ s.fsm = .tx ∨ s.fsm.inReply = true) := by
  obtain ⟨rest, _, hmove⟩ | ⟨a, rest, _, hmove⟩ := step_cases h
  · refine ⟨congrArg Prod.fst hmove.keeps.fixed_eq, ?_⟩
    obtain hsilent | hf := hmove.silent_or
    · obtain ⟨added, hlog, hall⟩ := hsilent.log_adds
      exact ⟨added, hlog, .inl hall⟩
    · obtain ⟨added, hlog, _⟩ := hmove.keeps.log_adds
      exact ⟨added, hlog, .inr hf⟩
  · obtain ⟨hbuild, added, hlog, hall⟩ := hmove.log_adds
    exact ⟨hbuild, added, hlog, .inl hall⟩

/-- Settles O58: every move appends to LOG, and the block keeps its fixed fields. -/
theorem whatNoStepChanges : Obligations.WhatNoStepChanges := by
  refine ⟨fun s t h => ?step, fun s t h => ?block⟩
  case step =>
    obtain ⟨hbuild, added, hlog, _⟩ := step_log h
    exact ⟨hlog ▸ List.prefix_append .., hbuild⟩
  case block =>
    have hfixed := (blockStep_eq_next_iff.1 h).keeps.fixed_eq
    simp only [State.fixed, Prod.mk.injEq] at hfixed
    obtain ⟨_, _, hsp, hrp, _, _, hq, hl⟩ := hfixed
    exact ⟨hsp, hrp, hq, hl⟩

/-- Settles O56: an exchange among the new events says that the step began in TX or in a reply state, where Select is granted. -/
theorem noExchangeWhileReleased : Obligations.NoExchangeWhileReleased := by
  intro s t added hsel hlog h hadded hx
  obtain ⟨_, added', hlog', hkind⟩ := step_log h
  obtain rfl : added = added' := List.append_cancel_left (hadded.symm.trans hlog')
  obtain hsilent | hf := hkind
  · obtain ⟨e, he, hxe⟩ := List.any_eq_true.1 hx
    have := List.all_eq_true.1 hsilent e he
    simp [Event.silent, hxe] at this
  · have hhalted : s.fsm ≠ .halted := by
      intro hh
      simp [hh, Fsm.inReply] at hf
    exact (hsel hlog hhalted).2 hf

/-! ### The end of a run -/

theorem State.endOfRun_iff (s : State) : s.endOfRun = true ↔
    (s.fsm = .done ∨ s.fsm = .idle) ∧ (∀ a ∈ s.hostq, a.isCmdw = false) ∧ s.log.getLast?.all Event.isComplete = true := by
  simp only [State.endOfRun, Bool.and_eq_true, Bool.or_eq_true, beq_iff_eq, List.all_eq_true, Bool.not_eq_true', and_assoc]

/-- A waiting block does nothing. -/
theorem State.BlockMove.eq_of_waiting {s t : State} (h : s.BlockMove t) (hf : s.fsm = .done ∨ s.fsm = .idle) : t = s := by
  cases h with
  | wait => rfl
  | handshake h | judge h => obtain hf | hf := hf <;> rw [hf] at h <;> nomatch h
  | send h | param h => obtain hf | hf := hf <;> rw [hf] at h <;> nomatch h

/-- Without a CMDW write, an action of the host changes only the stores and what the host has read. -/
theorem State.HostMove.eq_of_not_isCmdw {s t : State} {a : HostAct} (h : s.HostMove a t) (ha : a.isCmdw = false) :
    t.fsm = s.fsm ∧ t.log = s.log ∧ t.status = s.status ∧ t.selectN = s.selectN ∧ t.resetN = s.resetN ∧ t.hostq = s.hostq := by
  cases h with
  | ignored | read | send | recv => exact ⟨rfl, rfl, rfl, rfl, rfl, rfl⟩
  | issue => nomatch ha

/-- Settles O60: the block waits, and what the host still does is no write of CMDW. -/
theorem endOfRunFinal : Obligations.EndOfRunFinal := by
  refine ⟨fun s hend => ⟨fun hq => ?same, fun t h => ?final⟩, fun s hf => ⟨?notEnd, fun hq => ?halt⟩⟩
  case same =>
    obtain ⟨hf, _⟩ := s.endOfRun_iff.1 hend
    rw [step_block hq]
    exact blockStep_eq_next_iff.2 (.wait hf.symm)
  case final =>
    obtain ⟨hf, hacts, hlog⟩ := s.endOfRun_iff.1 hend
    obtain ⟨rest, hrest, hmove⟩ | ⟨a, rest, hq, hmove⟩ := step_cases h
    · rw [hmove.eq_of_waiting hf]
      refine ⟨(State.endOfRun_iff _).2 ⟨hf, fun a ha => hacts a (hrest.subset ha), hlog⟩, rfl, rfl, rfl, rfl, rfl⟩
    · obtain ⟨hfsm, hlog', hst, hsel, hres, hq'⟩ := hmove.eq_of_not_isCmdw (hacts a (hq ▸ List.mem_cons_self))
      refine ⟨t.endOfRun_iff.2 ⟨hfsm ▸ hf, fun b hb => ?_, hlog'.symm ▸ hlog⟩, hfsm, hlog', hst, hsel, hres⟩
      rw [hq'] at hb
      exact hacts b (hq ▸ List.mem_cons_of_mem _ hb)
  case notEnd => simp [State.endOfRun, hf]
  case halt => rw [step_block hq, blockStep, hf]

end Sys2Proof.Machine
end

section
/-! What a byte read inside a parameter can do in a state of the invariant: where the cursor goes, and that every destination written is
of its descriptor's type and within its capacity (43_param_decode.md R170 to R179). -/

namespace Sys2Proof.Machine

open Sys2Proof.Config

/-! ### Destinations within their descriptors -/

/-- Every listed destination is within its descriptor: `State.WithinCapacity`, of the two stores alone. -/
def Dests.Within (rp : List RecvDesc) (d : Dests) : Prop :=
  ∀ x ∈ d, ∃ p js r, x.1 = p :: js ∧ slotDesc rp p js.length = some r ∧ x.2.within r = true

/-- What is written from `d` to `d'` keeps the canonical form and the capacities. -/
structure Dests.Grows (rp : List RecvDesc) (d d' : Dests) : Prop where
  wf : d.wf → d'.wf
  within : d.Within rp → d'.Within rp

section
variable {rp : List RecvDesc} {d d' d'' : Dests} {p : Nat} {stack : List Frame} {r : RecvDesc}

theorem Dests.Grows.refl (rp : List RecvDesc) (d : Dests) : d.Grows rp d := ⟨id, id⟩

theorem Dests.Grows.trans (h : d.Grows rp d') (h' : d'.Grows rp d'') : d.Grows rp d'' :=
  ⟨h'.wf ∘ h.wf, h'.within ∘ h.within⟩

theorem Dests.Grows.nil (rp : List RecvDesc) (d : Dests) : d.Grows rp [] := ⟨fun _ => Dests.nil_wf, fun _ => nofun⟩

/-- A value that is within the descriptor of its slot. -/
theorem Dests.Grows.set {l : Leaf} (hr : slotDesc rp p stack.length = some r) (hwf : d.wf → l.wf = true)
    (hl : d.Within rp → l.within r = true) : d.Grows rp (d.set (slotOf p stack) l) where
  wf h := Dests.set_wf h _ (hwf h)
  within h x hx := by
    obtain rfl | hx := Dests.mem_set hx
    · exact ⟨p, stack.reverse.map Frame.j, r, rfl, by rwa [List.length_map, List.length_reverse], hl h⟩
    · exact h x hx

/-- What a slot holds is within the slot's descriptor. -/
theorem Dests.Within.of_get {l : Leaf} (h : d.Within rp) (hr : slotDesc rp p stack.length = some r)
    (hget : d.get (slotOf p stack) = some l) : l.within r = true := by
  obtain ⟨p', js, r', hslot, hr', hl⟩ := h _ (Dests.mem_of_get hget)
  obtain ⟨rfl, rfl⟩ := List.cons.inj hslot
  rw [List.length_map, List.length_reverse, hr] at hr'
  cases hr'
  exact hl

/-- The capacity of a span of either kind. -/
def RecvDesc.cap : RecvDesc → Option Nat
  | .span cap => some cap
  | .nullterm cap => some cap
  | _ => none

theorem Leaf.within_bytes {cap : Nat} (hcap : r.cap = some cap) (buf : Memory) (rlen : Option Nat) :
    (Leaf.bytes buf rlen).within r = true ↔ (∀ c ∈ buf, c.1 < cap) ∧ ∀ n, rlen = some n → n ≤ cap := by
  cases r <;> cases hcap <;> cases rlen <;> simp [Leaf.within]

theorem Dests.Within.buffer {cap : Nat} (h : d.Within rp) (hr : slotDesc rp p stack.length = some r)
    (hcap : r.cap = some cap) : ∀ c ∈ d.buffer (slotOf p stack), c.1 < cap := by
  unfold Dests.buffer
  split
  case h_1 buf rlen hget => exact ((Leaf.within_bytes hcap buf rlen).1 (h.of_get hr hget)).1
  case h_2 => nofun

/-- A byte below the capacity. -/
theorem Dests.Grows.memWrite {cap i : Nat} (hr : slotDesc rp p stack.length = some r) (hcap : r.cap = some cap) (hi : i < cap)
    (b : Byte) : d.Grows rp (d.memWrite (slotOf p stack) i b) := by
  refine .set hr (fun h => ?_) (fun h => (Leaf.within_bytes hcap _ _).2 ⟨fun c hc => ?_, nofun⟩)
  · exact decide_eq_true (Memory.write_wf (Dests.buffer_wf h _) i b)
  · obtain rfl | hc := Memory.mem_write hc
    · exact hi
    · exact h.buffer hr hcap c hc

theorem Dests.Grows.setRlen {cap l : Nat} (hr : slotDesc rp p stack.length = some r) (hcap : r.cap = some cap) (hl : l ≤ cap) :
    d.Grows rp (d.setRlen (slotOf p stack) l) := by
  refine .set hr (fun h => ?_) (fun h => (Leaf.within_bytes hcap _ _).2 ⟨h.buffer hr hcap, ?_⟩)
  · exact decide_eq_true (Dests.buffer_wf h _)
  · rintro _ ⟨⟩
    exact hl

/-- RCNT of a sub-list within its capacity. -/
theorem Dests.Grows.setCount {ecap k : Nat} {ed : RecvDesc} (hr : slotDesc rp p stack.length = some (.list ecap ed))
    (hk : k ≤ ecap) : d.Grows rp (d.set (slotOf p stack) (.count k)) :=
  .set hr (fun _ => rfl) (fun _ => decide_eq_true hk)

end

/-! ### The cursor -/

/-- Where the cursor of `State.Inv` is in RX_PARAM: at a valid descriptor that the awaited byte fits, inside sub-lists with an element
left. -/
def State.CursorOk (s : State) : Prop :=
  (∃ r, s.curDesc = some r ∧ r.valid = true ∧ s.cur.fits s.build.listForm s.cl.rmode r = true) ∧
    framesFit s.rp s.cur.p s.cur.stack = true

theorem RecvDesc.valid_descend : ∀ {n : Nat} {r r' : RecvDesc}, RecvDesc.descend n r = some r' → r.valid = true →
    r'.valid = true
  | 0, _, _, h, hv => by
    cases h
    exact hv
  | n + 1, .list _ ed, _, h, hv => by
    simp only [RecvDesc.valid, Bool.and_eq_true] at hv
    exact RecvDesc.valid_descend (n := n) (r := ed) h hv.2

theorem slotDesc_valid {rp : List RecvDesc} {p n : Nat} {r : RecvDesc} (hv : rp.all RecvDesc.valid = true)
    (h : slotDesc rp p n = some r) : r.valid = true := by
  unfold slotDesc at h
  split at h
  case h_1 r' hr' => exact RecvDesc.valid_descend h (List.all_eq_true.1 hv r' (List.mem_of_getElem? hr'))
  case h_2 => nomatch h

theorem framesFit_cons {rp : List RecvDesc} {p : Nat} {f : Frame} {rest : List Frame} :
    framesFit rp p (f :: rest) = true ↔ f.j < f.k ∧ framesFit rp p rest = true ∧
      ∃ ecap ed, slotDesc rp p rest.length = some (.list ecap ed) ∧ f.k ≤ ecap := by
  simp only [framesFit, Bool.and_eq_true, decide_eq_true_eq, and_assoc]
  refine and_congr_right fun _ => and_congr_right fun _ => ⟨fun h => ?_, fun ⟨ecap, ed, hd, hk⟩ => ?_⟩
  · split at h
    case h_1 ecap ed hd => exact ⟨ecap, ed, hd, of_decide_eq_true h⟩
    case h_2 => nomatch h
  · rw [hd]
    exact decide_eq_true hk

/-- Counting a byte leaves the elements that are left. -/
theorem framesFit_counted (rp : List RecvDesc) (p n : Nat) :
    ∀ stack : List Frame, framesFit rp p (stack.map (Frame.counted n)) = framesFit rp p stack
  | [] => rfl
  | f :: rest => by
    simp only [List.map_cons, framesFit, framesFit_counted rp p n rest, List.length_map]
    rfl

/-- Only a sub-list has tag 7 (30_encoding.md R84). -/
theorem RecvDesc.tag_ne_seven {r : RecvDesc} (h : ∀ ecap ed, r ≠ .list ecap ed) : r.tag ≠ 7#4 := by
  cases r with
  | list ecap ed => exact absurd rfl (h ecap ed)
  | reserved t =>
    have hres : ∀ t : BitVec 3, (1 : BitVec 1) ++ t ≠ 7#4 := by decide
    exact hres t
  | _ => nofun

/-- The first byte of an item fits it. -/
theorem Cursor.fits_open (lf : ListForm) (m : Mode) (r : RecvDesc) {c : Cursor} (hi : c.i = 0) (hheld : c.held = [])
    (hstage : c.stage = openStage lf (some r)) : c.fits lf m r = true := by
  by_cases hlist : ∃ ecap ed, r = .list ecap ed
  · obtain ⟨ecap, ed, rfl⟩ := hlist
    cases lf <;> simp [Cursor.fits, hstage, openStage, hi, hheld, RecvDesc.tag]
  · have hne : ∀ ecap ed, r ≠ .list ecap ed := fun ecap ed h => hlist ⟨ecap, ed, h⟩
    have hopen : openStage lf (some r) = .len0 := by
      cases r with
      | list ecap ed => exact absurd rfl (hne ecap ed)
      | _ => rfl
    simp [Cursor.fits, hstage, hopen, hi, hheld, RecvDesc.tag_ne_seven hne]

/-! ### The moves inside a parameter -/

/-- What the end of an item, or a byte of one, can do: the cursor goes on to a byte of a descriptor, or to the END check, or the reply
fails, or the terminator fault occurs. -/
inductive State.ParamMove (s : State) : State → Prop
  | inItem (c : Cursor) (d : Dests) : s.dst.Grows s.rp d → State.CursorOk { s with cur := c, dst := d } →
      s.ParamMove { s with fsm := .rxParam, cur := c, dst := d }
  | atEnd (c : Cursor) (d : Dests) : s.dst.Grows s.rp d → s.ParamMove { s with fsm := .rxEnd, cur := c, dst := d }
  | fails (c : Cursor) (d : Dests) (f : Failure) : s.dst.Grows s.rp d →
      s.ParamMove (State.failPhase { s with cur := c, dst := d } f)
  | faults (c : Cursor) (d : Dests) (b : Byte) : s.ParamMove (State.takeFault { s with cur := c, dst := d } b)

/-- The cursor and the destinations may have moved before. -/
theorem State.ParamMove.of_moved {s t : State} {c : Cursor} {d : Dests} (hd : s.dst.Grows s.rp d)
    (h : State.ParamMove { s with cur := c, dst := d } t) : s.ParamMove t := by
  cases h with
  | inItem c' d' hd' hc => exact .inItem c' d' (hd.trans hd') hc
  | atEnd c' d' hd' => exact .atEnd c' d' (hd.trans hd')
  | fails c' d' f hd' => exact .fails c' d' f (hd.trans hd')
  | faults c' d' b => exact .faults c' d' b

theorem State.failPhase_move (s : State) (c : Cursor) (f : Failure) : s.ParamMove (State.failPhase { s with cur := c } f) :=
  .fails c s.dst f (.refl ..)

section
variable {s : State} (hv : s.rp.all RecvDesc.valid = true)
include hv

theorem State.openItem_move {p : Nat} {stack : List Frame} {r : RecvDesc} (hr : slotDesc s.rp p stack.length = some r)
    (hfit : framesFit s.rp p stack = true) : s.ParamMove (s.openItem p stack) := by
  refine .inItem _ s.dst (.refl ..) ⟨⟨r, hr, slotDesc_valid hv hr, ?_⟩, hfit⟩
  exact Cursor.fits_open _ _ r rfl rfl (by rw [← hr])

theorem State.openTop_move (p : Nat) : s.ParamMove (s.openTop p) := by
  unfold State.openTop
  split
  case isTrue hp =>
    have hr : slotDesc s.rp p 0 = some s.rp[p] := by rw [slotDesc, List.getElem?_eq_getElem hp]; rfl
    exact State.openItem_move hv (stack := []) hr rfl
  case isFalse => exact .atEnd _ s.dst (.refl ..)

end

/-- Out of a finished item, as far as the sub-lists end with it. -/
theorem State.advance_move : ∀ {stack : List Frame} {s : State}, s.rp.all RecvDesc.valid = true →
    framesFit s.rp s.cur.p stack = true → s.ParamMove (s.advance stack)
  | [], s, hv, _ => State.openTop_move hv _
  | f :: rest, s, hv, hfit => by
    obtain ⟨_, hrest, ecap, ed, hd, hk⟩ := framesFit_cons.1 hfit
    rw [State.advance]
    split
    case isTrue hj =>
      exact State.openItem_move hv (slotDesc_succ hd) (framesFit_cons.2 ⟨hj, hrest, ecap, ed, hd, hk⟩)
    case isFalse =>
      split
      case isTrue => exact .fails s.cur s.dst _ (.refl ..)
      case isFalse => exact .of_moved (.setCount hd hk) (State.advance_move hv hrest)

/-! ### The receive rules -/

/-- The block is at an item of descriptor `r`, inside sub-lists with an element left, and the receive list is valid. -/
structure State.InItem (r : RecvDesc) (s : State) : Prop where
  desc : s.curDesc = some r
  frames : framesFit s.rp s.cur.p s.cur.stack = true
  valids : s.rp.all RecvDesc.valid = true

section
variable {s : State} {r : RecvDesc} (h : s.InItem r)
include h

/-- The next byte is one of the same item. -/
theorem State.InItem.stays (hf : s.fsm = .rxParam) {c : Cursor} {d : Dests} (hp : c.p = s.cur.p)
    (hstack : c.stack = s.cur.stack) (hd : s.dst.Grows s.rp d) (hfits : c.fits s.build.listForm s.cl.rmode r = true) :
    s.ParamMove { s with cur := c, dst := d } := by
  have hdesc : slotDesc s.rp c.p c.stack.length = some r := by
    rw [hp, hstack]
    exact h.desc
  have hframes : framesFit s.rp c.p c.stack = true := by
    rw [hp, hstack]
    exact h.frames
  have hmove := State.ParamMove.inItem c d hd ⟨⟨r, hdesc, slotDesc_valid h.valids h.desc, hfits⟩, hframes⟩
  rwa [← hf] at hmove

theorem State.InItem.finishItem {c : Cursor} {d : Dests} (hp : c.p = s.cur.p) (hstack : c.stack = s.cur.stack)
    (hd : s.dst.Grows s.rp d) : s.ParamMove (State.finishItem { s with cur := c, dst := d }) := by
  refine .of_moved hd (State.advance_move (s := { s with cur := c, dst := d }) h.valids ?_)
  show framesFit s.rp c.p c.stack = true
  rw [hp, hstack]
  exact h.frames

/-- LEN is read: what the whole LEN can lead to, any of its bytes can. -/
theorem State.InItem.readLen {b : Byte} {k : State → State} (hf : s.fsm = .rxParam)
    (hfits : s.cur.fits s.build.listForm s.cl.rmode r = true) (hin : s.cur.stage.inLen = true)
    (hk : ∀ l : Word16, s.ParamMove (k { s with cur := { s.cur with len := l } })) : s.ParamMove (s.readLen b k) := by
  unfold State.readLen
  split
  case h_1 => exact hk _
  case h_2 hne =>
    have hstage : s.cur.stage = .len0 := by
      cases hst : s.cur.stage with
      | len0 => rfl
      | len1 => exact absurd hst hne
      | count | payload => rw [hst] at hin; nomatch hin
    split
    case h_1 => exact hk _
    case h_2 hm =>
      refine h.stays hf (d := s.dst) rfl rfl (.refl ..) ?_
      simp only [Cursor.fits, hstage, Bool.and_eq_true] at hfits ⊢
      obtain ⟨⟨hform, hi⟩, _⟩ := hfits
      exact ⟨⟨⟨hform, by rw [hm]; rfl⟩, hi⟩, rfl⟩

end

/-! ### Payload bytes -/

section
variable {c : Cursor} {lf : ListForm} {m : Mode} {r : RecvDesc}

theorem Cursor.fits_payload_iff (hstage : c.stage = .payload) : c.fits lf m r = true ↔
    r.tag ≠ 7#4 ∧ c.i < c.len.toNat ∧ c.len.toNat ≤ r.payloadMax ∧
      ∀ n, r.width = some n → c.len.toNat = n ∧ c.held.length = c.i := by
  cases hw : r.width <;> simp [Cursor.fits, hstage, hw, and_assoc]

/-- Only a sub-list awaits a count. -/
theorem Cursor.stage_payload (h : c.fits lf m r = true) (hr : r.tag ≠ 7#4) (hin : ¬ c.stage.inLen = true) :
    c.stage = .payload := by
  cases hstage : c.stage with
  | payload => rfl
  | count => simp [Cursor.fits, hstage, hr] at h
  | len0 | len1 => rw [hstage] at hin; exact absurd rfl hin

theorem RecvDesc.payloadMax_of_width {n : Nat} (h : r.width = some n) : r.payloadMax = n := by
  cases r <;> cases h <;> rfl

theorem RecvDesc.tag_ne_seven_of_width {n : Nat} (h : r.width = some n) : r.tag ≠ 7#4 :=
  RecvDesc.tag_ne_seven (by rintro ecap ed rfl; nomatch h)

end

section
variable {s : State} {r : RecvDesc} (h : s.InItem r) (hf : s.fsm = .rxParam)
  (hfits : s.cur.fits s.build.listForm s.cl.rmode r = true) (b : Byte)
include h hf hfits

theorem State.InItem.recvScalar_move {n : Nat} {asm : List Byte → Leaf} (hw : r.width = some n) (hn : 0 < n)
    (hasm : ∀ bs, (asm bs).wf = true ∧ (asm bs).within r = true) : s.ParamMove (recvScalar n asm b s) := by
  have htag := RecvDesc.tag_ne_seven_of_width hw
  have hmax := RecvDesc.payloadMax_of_width hw
  unfold recvScalar
  split
  case isTrue hin =>
    refine h.readLen hf hfits hin fun l => ?_
    split
    case isTrue => exact State.failPhase_move ..
    case isFalse hlen =>
      refine h.stays hf (d := s.dst) rfl rfl (.refl ..) ((Cursor.fits_payload_iff rfl).2 ?_)
      have hl : l.toNat = n := not_not.1 hlen
      refine ⟨htag, hl ▸ hn, (hl.trans hmax.symm).le, fun n' hn' => ⟨hl.trans ?_, rfl⟩⟩
      exact Option.some.inj (hw.symm.trans hn')
  case isFalse hin =>
    have hstage := Cursor.stage_payload hfits htag hin
    obtain ⟨_, hi, hle, hlen⟩ := (Cursor.fits_payload_iff hstage).1 hfits
    obtain ⟨hl, hheld⟩ := hlen n hw
    simp only
    split
    case isTrue hlt =>
      refine h.stays hf (d := s.dst) rfl rfl (.refl ..) ((Cursor.fits_payload_iff (by exact hstage)).2 ?_)
      refine ⟨htag, hl ▸ hlt, hle, fun n' hn' => ⟨(hlen n' hn').1, ?_⟩⟩
      rw [List.length_append, hheld]
      rfl
    case isFalse => exact h.finishItem rfl rfl (.set h.desc (fun _ => (hasm _).1) (fun _ => (hasm _).2))

theorem State.InItem.recvSpan_move {cap : Nat} (hr : r = .span cap) : s.ParamMove (recvSpan cap b s) := by
  subst hr
  have htag : (RecvDesc.span cap).tag ≠ 7#4 := nofun
  unfold recvSpan
  split
  case isTrue hin =>
    refine h.readLen hf hfits hin fun l => ?_
    split
    case isTrue => exact State.failPhase_move ..
    case isFalse hcap =>
      split
      case isTrue => exact h.finishItem rfl rfl (.setRlen h.desc rfl (Nat.zero_le _))
      case isFalse hne =>
        refine h.stays hf (d := s.dst) rfl rfl (.refl ..) ((Cursor.fits_payload_iff rfl).2 ?_)
        exact ⟨htag, Nat.pos_of_ne_zero hne, Nat.le_of_not_lt hcap, nofun⟩
  case isFalse hin =>
    have hstage := Cursor.stage_payload hfits htag hin
    obtain ⟨_, hi, hle, _⟩ := (Cursor.fits_payload_iff hstage).1 hfits
    have hstore : s.dst.Grows s.rp (s.dst.memWrite s.curSlot s.cur.i b) :=
      .memWrite h.desc rfl (Nat.lt_of_lt_of_le hi hle) b
    simp only
    split
    case isTrue hlt =>
      refine h.stays hf rfl rfl hstore ((Cursor.fits_payload_iff (by exact hstage)).2 ?_)
      exact ⟨htag, hlt, hle, nofun⟩
    case isFalse => exact h.finishItem rfl rfl (hstore.trans (.setRlen h.desc rfl hle))

theorem State.InItem.recvNullterm_move {cap : Nat} (hr : r = .nullterm cap) : s.ParamMove (recvNullterm cap b s) := by
  subst hr
  have htag : (RecvDesc.nullterm cap).tag ≠ 7#4 := nofun
  unfold recvNullterm
  split
  case isTrue hin =>
    refine h.readLen hf hfits hin fun l => ?_
    split
    case isTrue => exact State.failPhase_move ..
    case isFalse hne =>
      split
      case isTrue => exact State.failPhase_move ..
      case isFalse hcap =>
        refine h.stays hf (d := s.dst) rfl rfl (.refl ..) ((Cursor.fits_payload_iff rfl).2 ?_)
        exact ⟨htag, Nat.pos_of_ne_zero hne, Nat.le_add_of_sub_le (Nat.le_of_not_lt hcap), nofun⟩
  case isFalse hin =>
    have hstage := Cursor.stage_payload hfits htag hin
    obtain ⟨_, hi, hle, _⟩ := (Cursor.fits_payload_iff hstage).1 hfits
    have hle' : s.cur.len.toNat ≤ cap + 1 := hle
    split
    case isTrue hlt =>
      refine h.stays hf rfl rfl (.memWrite h.desc rfl (by omega) b) ((Cursor.fits_payload_iff (by exact hstage)).2 ?_)
      exact ⟨htag, hlt, hle, nofun⟩
    case isFalse =>
      split
      case isTrue => exact .faults s.cur s.dst b
      case isFalse => exact h.finishItem rfl rfl (.setRlen h.desc rfl (Nat.sub_le_of_le_add hle'))

theorem State.InItem.recvList_move {ecap : Nat} {ed : RecvDesc} (hr : r = .list ecap ed) : s.ParamMove (recvList ecap b s) := by
  subst hr
  unfold recvList
  split
  case isTrue hin =>
    refine h.readLen hf hfits hin fun l => h.stays hf (d := s.dst) rfl rfl (.refl ..) ?_
    simp [Cursor.fits, RecvDesc.tag]
  case isFalse hin =>
    split
    case isTrue => exact State.failPhase_move s s.cur _
    case isFalse hcap =>
      have hle : b.toNat ≤ ecap := Nat.le_of_not_lt hcap
      by_cases hk : b.toNat = 0
      · rw [if_pos hk, State.advance_of_le _ _ hk.le, State.atElem, if_neg hk.not_gt]
        split_ifs
        · exact State.failPhase_move s s.cur _
        · exact h.finishItem rfl rfl (.setCount h.desc hle)
      · rw [if_neg hk]
        exact State.openItem_move h.valids (slotDesc_succ h.desc)
          (framesFit_cons.2 ⟨Nat.pos_of_ne_zero hk, h.frames, ecap, ed, h.desc, hle⟩)

theorem State.InItem.rule_move {f : Byte → State → State} (hrule : r.rule = some f) : s.ParamMove (f b s) := by
  cases r <;> cases hrule
  case span => exact h.recvSpan_move hf hfits b rfl
  case nullterm => exact h.recvNullterm_move hf hfits b rfl
  case list => exact h.recvList_move hf hfits b rfl
  all_goals exact h.recvScalar_move hf hfits b rfl (by decide) fun _ => ⟨rfl, rfl⟩

end

/-- Counting a byte leaves the cursor where it is. -/
theorem State.CursorOk.consumed {s : State} (h : s.CursorOk) : s.consumed.CursorOk := by
  obtain ⟨⟨r, hr, hv, hfits⟩, hframes⟩ := h
  refine ⟨⟨r, (State.consumed_curDesc s).trans hr, hv, hfits⟩, ?_⟩
  exact (framesFit_counted s.rp s.cur.p 1 s.cur.stack).trans hframes

end Sys2Proof.Machine
end

section
/-! Every step keeps the invariant, and the block never stops in it (10_state.md R36 to R50). -/

namespace Sys2Proof.Machine

open Sys2Proof.Config

/-! ### The parts of the invariant -/

theorem Fsm.inReset_of_inExecute {f : Fsm} (h : f.inExecute = true) : f.inReset = false := by
  cases f <;> simp [Fsm.inExecute, Fsm.inReset] at h ⊢

theorem Fsm.inExecute_of_inReply {f : Fsm} (h : f.inReply = true) : f.inExecute = true := by
  cases f <;> simp [Fsm.inExecute, Fsm.inReply] at h ⊢

namespace State

/-- What the invariant says apart from the sequencer's state, while no fault has occurred. -/
structure Steady (s : State) : Prop where
  fault : s.status.fault = false
  errByte : errByteOf s.status = true
  stores : s.sp.length ≤ 255 ∧ s.rp.length ≤ 255
  scan : s.scnt ≤ s.build.scanCeiling
  sent : s.txn.toNat = s.txIdx % 4
  dests : s.dst.wf
  unspec : s.dstUnspec = true → s.dst = []

/-- An operation is in progress. -/
structure Busy (s : State) : Prop extends Steady s where
  busy : s.status.busy = true
  done : s.status.done = false

/-- A checked EXECUTE is in progress. -/
structure Executing (s : State) : Prop extends Busy s where
  op : s.cl.op = 0x2
  check : s.issueCheck = true
  spWritten : s.spWritten = true
  rpWritten : s.rpWritten = true
  specified : s.dstUnspec = false

/-- The fields that those parts speak of and that no call inside an operation changes. -/
def operation (s : State) :=
  (s.fixed, s.status, s.dstUnspec)

section
variable {s t : State}

theorem Steady.of_operation (h : s.Steady) (ho : t.operation = s.operation) (hscan : t.scnt ≤ t.build.scanCeiling)
    (hsent : t.txn.toNat = t.txIdx % 4) (hd : t.dst.wf) (hu : t.dstUnspec = true → t.dst = []) : t.Steady := by
  simp only [operation, fixed, Prod.mk.injEq] at ho
  obtain ⟨⟨_, _, hsp, hrp, _⟩, hst, _⟩ := ho
  exact ⟨hst ▸ h.fault, hst ▸ h.errByte, by rw [hsp, hrp]; exact h.stores, hscan, hsent, hd, hu⟩

theorem Busy.of_operation (h : s.Busy) (ho : t.operation = s.operation) (hscan : t.scnt ≤ t.build.scanCeiling)
    (hsent : t.txn.toNat = t.txIdx % 4) (hd : t.dst.wf) (hu : t.dstUnspec = true → t.dst = []) : t.Busy := by
  refine ⟨h.toSteady.of_operation ho hscan hsent hd hu, ?_, ?_⟩
  all_goals
    simp only [operation, Prod.mk.injEq] at ho
    rw [ho.2.1]
  · exact h.busy
  · exact h.done

theorem Executing.of_operation (h : s.Executing) (ho : t.operation = s.operation) (hscan : t.scnt ≤ t.build.scanCeiling)
    (hsent : t.txn.toNat = t.txIdx % 4) (hd : t.dst.wf) : t.Executing := by
  have ho' := ho
  simp only [operation, fixed, Prod.mk.injEq] at ho'
  obtain ⟨⟨hb, hcl, hsp, hrp, hsw, hrw, _⟩, _, hu⟩ := ho'
  have hspec : t.dstUnspec = false := hu.trans h.specified
  refine ⟨h.toBusy.of_operation ho hscan hsent hd (fun hu' => ?_), hcl ▸ h.op, ?_, hsw ▸ h.spWritten, hrw ▸ h.rpWritten, hspec⟩
  · rw [hspec] at hu'
    nomatch hu'
  · rw [issueCheck, hb, hcl, hsp, hrp]
    exact h.check

/-- A call that leaves the counters and the destinations too. -/
theorem Executing.of_call (h : s.Executing) (ho : t.operation = s.operation)
    (hc : (t.scnt, t.txn, t.txIdx, t.dst) = (s.scnt, s.txn, s.txIdx, s.dst)) : t.Executing := by
  have hb : t.build = s.build := congrArg (fun o => o.1.1) ho
  simp only [Prod.mk.injEq] at hc
  obtain ⟨hscnt, htxn, hidx, hd⟩ := hc
  exact h.of_operation ho (by rw [hscnt, hb]; exact h.scan) (by rw [htxn, hidx]; exact h.sent) (by rw [hd]; exact h.dests)

theorem Busy.of_call (h : s.Busy) (ho : t.operation = s.operation)
    (hc : (t.scnt, t.txn, t.txIdx, t.dst) = (s.scnt, s.txn, s.txIdx, s.dst)) : t.Busy := by
  have hb : t.build = s.build := congrArg (fun o => o.1.1) ho
  have hu : t.dstUnspec = s.dstUnspec := congrArg (fun o => o.2.2) ho
  simp only [Prod.mk.injEq] at hc
  obtain ⟨hscnt, htxn, hidx, hd⟩ := hc
  exact h.of_operation ho (by rw [hscnt, hb]; exact h.scan) (by rw [htxn, hidx]; exact h.sent) (by rw [hd]; exact h.dests)
    (by rw [hu, hd]; exact h.unspec)

theorem Executing.exchanged (h : s.Executing) (b : Byte) (d : XchgDraw) : (s.exchanged b d).Executing := h.of_call rfl rfl

theorem Executing.sampled (h : s.Executing) (d : ReadyDraw) : (s.sampled d).Executing := h.of_call rfl rfl

theorem Executing.consumed (h : s.Executing) : s.consumed.Executing := h.of_call rfl rfl

theorem Executing.wrote (h : s.Executing) (l : Line) (v : Bool) (d : WriteDraw) : (s.wrote l v d).Executing :=
  h.of_call (by rw [wrote_eq]; rfl) (by rw [wrote_eq])

theorem Busy.wrote (h : s.Busy) (l : Line) (v : Bool) (d : WriteDraw) : (s.wrote l v d).Busy :=
  h.of_call (by rw [wrote_eq]; rfl) (by rw [wrote_eq])

/-! ### What the invariant gives -/

/-- The flags of an operation in progress. -/
theorem flagsOf_operation {f : Fsm} {st : Status} (hf : f.inExecute = true ∨ f.inReset = true) :
    flagsOf f st = true ↔ st.busy = true ∧ st.done = false ∧ st.fault = false := by
  cases f <;> simp [Fsm.inExecute, Fsm.inReset, flagsOf, and_assoc] at hf ⊢

/-- No operation is in progress while BUSY = 0. -/
theorem Inv.waiting (h : s.Inv) (hbusy : s.status.busy = false) : s.fsm = .idle ∨ s.fsm = .done ∨ s.fsm = .halted := by
  have hflags := h.flags
  cases hf : s.fsm <;> simp [hf, flagsOf, hbusy] at hflags ⊢

theorem Inv.fault_eq (h : s.Inv) (hf : s.fsm ≠ .halted) : s.status.fault = false := by
  have hflags := h.flags
  cases hs : s.fsm
  case halted => exact absurd hs hf
  all_goals
    simp only [hs, flagsOf, Bool.and_eq_true, Bool.not_eq_true'] at hflags
    exact hflags.2

theorem Inv.steady (h : s.Inv) (hf : s.fsm ≠ .halted) : s.Steady :=
  ⟨h.fault_eq hf, h.errByte, h.stores, h.scan.1, h.sent.1, h.dests, h.unspec⟩

theorem Inv.toBusy (h : s.Inv) (hf : s.fsm.inExecute = true ∨ s.fsm.inReset = true) : s.Busy := by
  obtain ⟨hbusy, hdone, _⟩ := (flagsOf_operation hf).1 h.flags
  exact ⟨h.steady (by rintro hh; simp [hh, Fsm.inExecute, Fsm.inReset] at hf), hbusy, hdone⟩

theorem Inv.toExecuting (h : s.Inv) (hf : s.fsm.inExecute = true) : s.Executing := by
  obtain ⟨hop, hcheck, hsp, hrp, hu⟩ := h.executing hf
  exact ⟨h.toBusy (.inl hf), hop, hcheck, hsp, hrp, hu⟩

/-- A failure is pending only in REL. -/
theorem Inv.err_eq (h : s.Inv) (hf : s.fsm ≠ .rel) : s.err = none := by
  by_contra he
  exact hf (h.pending (Option.isSome_iff_ne_none.2 he))

theorem Executing.valids (h : s.Executing) : s.rp.all RecvDesc.valid = true := by
  have := h.check
  rw [issueCheck, Bool.and_eq_true] at this
  exact this.2

/-! ### What gives the invariant -/

theorem Executing.inv (h : s.Executing) (hf : s.fsm.inExecute = true)
    (hph : (s.fsm = .tx → s.ph = .req) ∧ (s.fsm.inReply = true → s.ph = .rep))
    (herr : s.err.isSome = true → s.fsm = .rel) (hscan : s.fsm = .rxScan → s.scnt < s.build.scanCeiling)
    (hnext : s.fsm = .tx → s.nextUnit.isSome = true) (hcur : s.fsm = .rxParam → s.CursorOk) : s.Inv where
  flags := (flagsOf_operation (.inl hf)).2 ⟨h.busy, h.done, h.fault⟩
  errByte := h.errByte
  stores := h.stores
  executing _ := ⟨h.op, h.check, h.spWritten, h.rpWritten, h.specified⟩
  resetting hr := absurd hr (by rw [Fsm.inReset_of_inExecute hf]; nofun)
  phase := hph
  pending := herr
  scan := ⟨h.scan, hscan⟩
  sent := ⟨h.sent, hnext⟩
  cursor := hcur
  dests := h.dests
  unspec := h.unspec

theorem Executing.inv_rel (h : s.Executing) (hf : s.fsm = .rel) : s.Inv :=
  h.inv (hf ▸ rfl) (hf ▸ ⟨nofun, nofun⟩) (fun _ => hf) (hf ▸ nofun) (hf ▸ nofun) (hf ▸ nofun)

theorem Executing.inv_acquire (h : s.Executing) (hf : s.fsm = .acqNr ∨ s.fsm = .acqR ∨ s.fsm = .acqSel) (herr : s.err = none) :
    s.Inv := by
  have hpend : s.err.isSome = true → s.fsm = .rel := by rw [herr]; nofun
  obtain hf | hf | hf := hf
  all_goals exact h.inv (hf ▸ rfl) (hf ▸ ⟨nofun, nofun⟩) hpend (hf ▸ nofun) (hf ▸ nofun) (hf ▸ nofun)

theorem Executing.inv_tx (h : s.Executing) (hf : s.fsm = .tx) (hph : s.ph = .req) (herr : s.err = none)
    (hnext : s.nextUnit.isSome = true) : s.Inv :=
  h.inv (hf ▸ rfl) ⟨fun _ => hph, hf ▸ nofun⟩ (by rw [herr]; nofun) (hf ▸ nofun) (fun _ => hnext) (hf ▸ nofun)

theorem Executing.inv_reply (h : s.Executing) (hf : s.fsm.inReply = true) (hph : s.ph = .rep) (herr : s.err = none)
    (hscan : s.fsm = .rxScan → s.scnt < s.build.scanCeiling) (hcur : s.fsm = .rxParam → s.CursorOk) : s.Inv := by
  have htx : s.fsm ≠ .tx := by rintro htx; rw [htx] at hf; nomatch hf
  exact h.inv (Fsm.inExecute_of_inReply hf) ⟨fun h => absurd h htx, fun _ => hph⟩ (by rw [herr]; nofun) hscan
    (fun h => absurd h htx) hcur

/-- A failure inside a phase (40_handshake.md R116). -/
theorem Executing.inv_failPhase (h : s.Executing) (f : Failure) : (s.failPhase f).Inv :=
  Executing.inv_rel (h.of_call rfl rfl) rfl

/-- The opening of a phase (40_handshake.md R113). -/
theorem Executing.inv_startAcquire (h : s.Executing) : s.startAcquire.Inv := by
  refine Executing.inv_acquire (h.of_call rfl rfl) ?_ rfl
  rw [startAcquire_fsm]
  split
  · exact .inl rfl
  · exact .inr (.inl rfl)

/-- Completion (44_transaction.md R194). -/
theorem Steady.inv_complete (h : s.Steady) {code : ErrCode} {byte : Byte} (hb : byte = 0 ∨ code = .unexpectedByte) :
    (s.complete code byte).Inv where
  flags := by simp [flagsOf, Status.completed, h.fault]
  errByte := by obtain rfl | rfl := hb <;> simp [errByteOf, Status.completed]
  stores := h.stores
  executing := nofun
  resetting := nofun
  phase := ⟨nofun, nofun⟩
  pending := nofun
  scan := ⟨h.scan, nofun⟩
  sent := ⟨h.sent, nofun⟩
  cursor := nofun
  dests := by
    rw [complete_dst, destsAfter]
    split
    · exact Dests.nil_wf
    · exact h.dests
  unspec := by
    rw [complete_dst, complete_dstUnspec, destsAfter, unspecAfter]
    split
    · exact fun _ => rfl
    · exact h.unspec

/-- Abort: the byte goes with UNEXPECTED_BYTE only (44_transaction.md R193). -/
theorem Steady.inv_abort (h : s.Steady) (f : Failure) : (s.abort f).Inv := by
  cases f with
  | transport e =>
    exact Steady.inv_complete (s := { s with terr := e })
      ⟨h.fault, h.errByte, h.stores, h.scan, h.sent, h.dests, h.unspec⟩ (.inl rfl)
  | unexpectedByte b => exact h.inv_complete (.inr rfl)
  | timeout | errorResponse | malformedLength | capacityExceeded => exact h.inv_complete (.inl rfl)

/-- The terminator fault (60_exceptions.md R217). -/
theorem Steady.inv_takeFault (h : s.Steady) (herr : s.err = none) (b : Byte) : (s.takeFault b).Inv where
  flags := by simp [flagsOf, Status.faulted]
  errByte := by simp [errByteOf, Status.faulted]
  stores := h.stores
  executing := nofun
  resetting := nofun
  phase := ⟨nofun, nofun⟩
  pending := by rw [takeFault_err, herr]; nofun
  scan := ⟨h.scan, nofun⟩
  sent := ⟨h.sent, nofun⟩
  cursor := nofun
  dests := Dests.nil_wf
  unspec _ := rfl

/-- A peer reset in progress. -/
theorem Busy.inv_reset (h : s.Busy) (hf : s.fsm.inReset = true) (hop : s.cl.op = 0x1) (herr : s.err = none) : s.Inv := by
  have hne : ∀ g : Fsm, g.inReset = false → s.fsm ≠ g := by rintro _ hg rfl; rw [hg] at hf; nomatch hf
  exact {
    flags := (flagsOf_operation (.inr hf)).2 ⟨h.busy, h.done, h.fault⟩
    errByte := h.errByte
    stores := h.stores
    executing := fun he => absurd hf (by rw [Fsm.inReset_of_inExecute he]; nofun)
    resetting := fun _ => hop
    phase := ⟨fun h => absurd h (hne _ rfl), fun he => absurd hf (by rw [Fsm.inReset_of_inExecute (Fsm.inExecute_of_inReply he)]; nofun)⟩
    pending := by rw [herr]; nofun
    scan := ⟨h.scan, fun h => absurd h (hne _ rfl)⟩
    sent := ⟨h.sent, fun h => absurd h (hne _ rfl)⟩
    cursor := fun h => absurd h (hne _ rfl)
    dests := h.dests
    unspec := h.unspec }

/-! ### The moves of the block -/

theorem Inv.resetWrite (h : s.Inv) (hf : s.fsm.inReset = true) {after : Fsm} (hafter : after.inReset = true) (line : Line)
    (level : Bool) : (resetWrite line level after s).Inv := by
  have hbusy := h.toBusy (.inr hf)
  unfold Machine.resetWrite
  split
  · refine Busy.inv_reset (s := State.goto _ after) ((hbusy.wrote ..).of_call rfl rfl) hafter ?_ ?_
    · exact (congrArg CmdLatch.op (wrote_cl ..)).trans (h.resetting hf)
    · exact (wrote_err ..).trans (h.err_eq (by rintro hr; rw [hr] at hf; nomatch hf))
  · exact (hbusy.wrote ..).inv_abort _

theorem Inv.acquire (h : s.Inv) (hf : s.fsm = .acqNr ∨ s.fsm = .acqR) : (acqNrStep s).Inv ∧ (acqRStep s).Inv := by
  have hex : s.Executing := h.toExecuting (by obtain hf | hf := hf <;> rw [hf] <;> rfl)
  have herr : s.err = none := h.err_eq (by obtain hf | hf := hf <;> rw [hf] <;> nofun)
  have hsame (d : ReadyDraw) : (s.sampled d).Inv :=
    (hex.sampled d).inv_acquire (by rw [sampled_fsm]; exact hf.imp_right .inl) herr
  have hgoto (d : ReadyDraw) {f : Fsm} (hg : f = .acqNr ∨ f = .acqR ∨ f = .acqSel) : ((s.sampled d).goto f).Inv :=
    Executing.inv_acquire (s := State.goto _ f) ((hex.sampled d).of_call rfl rfl) hg herr
  constructor
  · unfold acqNrStep
    split
    · exact hsame _
    · exact hgoto _ (.inr (.inl rfl))
    · exact (hex.sampled _).inv_failPhase _
  · unfold acqRStep
    split
    · exact hgoto _ (.inr (.inr rfl))
    · exact hsame _
    · exact (hex.sampled _).inv_failPhase _

/-- The body of a phase begins with its counters at 0 (41_frame_codec.md R131, R134). -/
theorem Executing.inv_startBody (h : s.Executing) (herr : s.err = none) : s.startBody.Inv := by
  unfold startBody startScan
  split
  case h_1 hph =>
    refine Executing.inv_tx (h.of_operation rfl h.scan rfl h.dests) rfl hph herr ?_
    refine (nextUnit_isSome _).2 (.inl ?_)
    show 0 < _
    rw [requestUnits_length]
    exact Nat.succ_pos _
  case h_2 hph =>
    have hex : State.Executing { s with fsm := .rxScan, scnt := 0 } := h.of_operation rfl (Nat.zero_le _) h.sent h.dests
    split
    case isTrue => exact hex.inv_failPhase _
    case isFalse hne => exact hex.inv_reply rfl hph herr (fun _ => Nat.pos_of_ne_zero hne) nofun

theorem Inv.acqSel (h : s.Inv) (hf : s.fsm = .acqSel) : (acqSelStep s).Inv := by
  have hex : s.Executing := h.toExecuting (hf ▸ rfl)
  unfold acqSelStep
  split
  · exact (hex.wrote ..).inv_startBody ((wrote_err ..).trans (h.err_eq (hf ▸ nofun)))
  · exact (hex.wrote ..).inv_failPhase _

theorem Executing.inv_phaseDone (h : s.Executing) : s.phaseDone.Inv := by
  unfold phaseDone
  split
  · exact Executing.inv_startAcquire (h.of_call rfl rfl)
  · exact h.inv_complete (.inl rfl)

theorem Inv.rel (h : s.Inv) (hf : s.fsm = .rel) : (relStep s).Inv := by
  have hex : s.Executing := h.toExecuting (hf ▸ rfl)
  unfold relStep
  split
  · exact (hex.wrote ..).inv_phaseDone
  all_goals exact (hex.wrote ..).inv_abort _

theorem Inv.handshake (h : s.Inv) {f : State → State} (hf : s.fsm.handshake = some f) : (f s).Inv := by
  cases hs : s.fsm <;> rw [hs] at hf <;> cases hf
  case rpSel | rpRlow | rpRhigh => exact h.resetWrite (hs ▸ rfl) rfl _ _
  case rpPulse =>
    refine Busy.inv_reset (s := State.goto _ .rpRhigh) ((h.toBusy (hs ▸ .inr rfl)).of_call rfl rfl) rfl ?_ ?_
    · exact h.resetting (hs ▸ rfl)
    · exact h.err_eq (hs ▸ nofun)
  case rpBoot => exact ((h.toBusy (hs ▸ .inr rfl)).of_call (t := s.delayed _) rfl rfl).inv_complete (.inl rfl)
  case acqNr => exact (h.acquire (.inl hs)).1
  case acqR => exact (h.acquire (.inr hs)).2
  case acqSel => exact h.acqSel hs
  case rel => exact h.rel hs

/-- TXN counts the bytes sent modulo 4 (10_state.md R40). -/
theorem txn_add_one {v : BitVec 2} {n : Nat} (h : v.toNat = n % 4) : (v + 1).toNat = (n + 1) % 4 := by
  rw [BitVec.toNat_add, h]
  simp

theorem Inv.sendByte (h : s.Inv) (hf : s.fsm = .tx) (b : Byte) : (s.sendByte b).Inv := by
  have hex : s.Executing := h.toExecuting (hf ▸ rfl)
  unfold State.sendByte
  split
  case h_1 r _ =>
    have hex' : State.Executing { s.exchanged b (.ok r) with txn := s.txn + 1, txIdx := s.txIdx + 1 } :=
      hex.of_operation rfl hex.scan (txn_add_one hex.sent) hex.dests
    simp only
    split
    case isTrue hnext => exact hex'.inv_tx hf (h.phase.1 hf) (h.err_eq (hf ▸ nofun)) hnext
    case isFalse => exact Executing.inv_rel (hex'.of_call rfl rfl) rfl
  case h_2 => exact (hex.exchanged ..).inv_failPhase _

/-- A move inside a parameter. -/
theorem ParamMove.inv (hm : s.ParamMove t) (h : s.Executing) (hph : s.ph = .rep) (herr : s.err = none) : t.Inv := by
  cases hm with
  | inItem c d hd hc =>
    exact Executing.inv_reply (h.of_operation rfl h.scan h.sent (hd.wf h.dests)) rfl hph herr nofun fun _ => hc
  | atEnd c d hd => exact Executing.inv_reply (h.of_operation rfl h.scan h.sent (hd.wf h.dests)) rfl hph herr nofun nofun
  | fails c d f hd =>
    exact Executing.inv_failPhase (h.of_operation (t := { s with cur := c, dst := d }) rfl h.scan h.sent (hd.wf h.dests)) f
  | faults c d b => 
    exact Steady.inv_takeFault (h.of_call (t := { s with cur := c, dst := s.dst }) rfl rfl).toSteady herr b

/-- A byte of the scan: below the ceiling the scan goes on (41_frame_codec.md R135). -/
theorem Executing.inv_scanByte (h : s.Executing) (hf : s.fsm = .rxScan) (hph : s.ph = .rep) (herr : s.err = none)
    (hlt : s.scnt < s.build.scanCeiling) (b : Byte) : (s.scanByte b).Inv := by
  have hread : State.Executing { s with scnt := s.scnt + 1 } := h.of_operation rfl hlt h.sent h.dests
  unfold scanByte scanSkip
  split_ifs with _ _ hlast
  · exact Executing.inv_reply (s := s.scanFound) (hread.of_call rfl rfl) rfl hph herr nofun nofun
  · exact hread.inv_failPhase .errorResponse
  · exact hread.inv_failPhase .timeout
  · exact hread.inv_reply (hf ▸ rfl) hph herr (fun _ => lt_of_le_of_ne hlt hlast) (by rw [hf]; nofun)

theorem Executing.inv_startParams (h : s.Executing) (hph : s.ph = .rep) (herr : s.err = none) : s.startParams.Inv :=
  (openTop_move h.valids 0).inv h hph herr

/-- The judgement of a byte outside the parameters. -/
theorem Executing.inv_judge (h : s.Executing) {f : State → Byte → State} (hf : s.fsm.judge = some f) (hph : s.ph = .rep)
    (herr : s.err = none) (hscan : s.fsm = .rxScan → s.scnt < s.build.scanCeiling) (b : Byte) : (f s b).Inv := by
  have hstart := h.inv_startParams hph herr
  cases hs : s.fsm <;> rw [hs] at hf <;> cases hf
  case rxScan => exact h.inv_scanByte hs hph herr (hscan hs) b
  case rxCmd =>
    unfold checkCmd
    split_ifs
    · exact h.inv_failPhase _
    · exact Executing.inv_reply (s := s.goto .rxCount) (h.of_call rfl rfl) rfl hph herr nofun nofun
    · exact hstart
  case rxCount =>
    unfold checkCount
    split_ifs
    · exact h.inv_failPhase _
    · exact hstart
  case rxEnd =>
    unfold checkEnd
    split_ifs
    · exact h.inv_failPhase _
    · exact Executing.inv_rel (s := s.goto .rel) (h.of_call rfl rfl) rfl

theorem Inv.judge (h : s.Inv) {f : State → Byte → State} (hf : s.fsm.judge = some f) : (readReply f s).Inv := by
  have hreply := Fsm.inReply_of_judge hf
  have hex := h.toExecuting (Fsm.inExecute_of_inReply hreply)
  have herr : s.err = none := h.err_eq (by rintro hr; rw [hr] at hreply; nomatch hreply)
  cases hx : s.env.xchg with
  | fail e =>
    rw [readReply_fail f hx]
    exact (hex.exchanged ..).inv_failPhase _
  | ok b =>
    rw [readReply_ok f hx]
    exact (hex.exchanged ..).inv_judge hf (h.phase.2 hreply) herr h.scan.2 b

/-- What a byte of a parameter does, once it is read and counted. -/
theorem Inv.rule_move (h : s.Inv) (hf : s.fsm = .rxParam) {r : RecvDesc} (hr : s.curDesc = some r)
    {f : Byte → State → State} (hrule : r.rule = some f) (b : Byte) :
    State.ParamMove (s.exchanged s.build.rxFill (.ok b)).consumed (f b (s.exchanged s.build.rxFill (.ok b)).consumed) := by
  have hex := h.toExecuting (hf ▸ rfl)
  have hcur : (s.exchanged s.build.rxFill (.ok b)).CursorOk := h.cursor hf
  obtain ⟨⟨r', hr', _, hfits⟩, hframes⟩ := hcur.consumed
  obtain rfl : r = r' := by
    rw [consumed_curDesc, exchanged_curDesc, hr] at hr'
    exact Option.some.inj hr'
  exact InItem.rule_move ⟨hr', hframes, hex.valids⟩ hf hfits b hrule

theorem Inv.param (h : s.Inv) (hf : s.fsm = .rxParam) {r : RecvDesc} (hr : s.curDesc = some r)
    {f : Byte → State → State} (hrule : r.rule = some f) : (readParam f s).Inv := by
  have hex := h.toExecuting (hf ▸ rfl)
  have herr : s.err = none := h.err_eq (hf ▸ nofun)
  cases hx : s.env.xchg with
  | fail e =>
    rw [readParam_fail f hx]
    exact (hex.exchanged ..).inv_failPhase _
  | ok b =>
    rw [readParam_ok f hx]
    exact (h.rule_move hf hr hrule b).inv (hex.exchanged ..).consumed (h.phase.2 (hf ▸ rfl)) herr

theorem BlockMove.inv (hm : s.BlockMove t) (h : s.Inv) : t.Inv := by
  cases hm with
  | wait => exact h
  | handshake hf => exact h.handshake hf
  | send hf => exact h.sendByte hf _
  | judge hf => exact h.judge hf
  | param hf hr hrule => exact h.param hf hr hrule

/-! ### The actions of the host -/

/-- The invariant does not speak of what the host has read or is about to do. -/
theorem Inv.of_host (h : s.Inv) (q : List HostAct) (l : List HostRead) : State.Inv { s with hostq := q, hostLog := l } :=
  ⟨h.flags, h.errByte, h.stores, h.executing, h.resetting, h.phase, h.pending, h.scan, h.sent, h.cursor, h.dests, h.unspec⟩

/-- While no operation is in progress the stores may change. -/
theorem Inv.of_stores (h : s.Inv) (hbusy : s.status.busy = false) {sp : List SendDesc} {rp : List RecvDesc} {d : Dests} {u w w' : Bool}
    (hsp : sp.length ≤ 255) (hrp : rp.length ≤ 255) (hd : d.wf) (hu : u = true → d = []) :
    State.Inv { s with sp := sp, rp := rp, dst := d, dstUnspec := u, spWritten := w, rpWritten := w' } := by
  have hidle : s.fsm.inExecute = false ∧ s.fsm ≠ .tx ∧ s.fsm ≠ .rxParam := by
    obtain hf | hf | hf := h.waiting hbusy <;> rw [hf] <;> exact ⟨rfl, nofun, nofun⟩
  obtain ⟨hex, htx, hparam⟩ := hidle
  exact {
    flags := h.flags
    errByte := h.errByte
    stores := ⟨hsp, hrp⟩
    executing := fun he => absurd he (by rw [hex]; nofun)
    resetting := h.resetting
    phase := h.phase
    pending := h.pending
    scan := h.scan
    sent := ⟨h.sent.1, fun hf => absurd hf htx⟩
    cursor := fun hf => absurd hf hparam
    dests := hd
    unspec := hu }

/-- Issue (44_transaction.md R198). -/
theorem Inv.issue (h : s.Inv) (hf : s.fsm ≠ .halted) {w : Word16} (hh1 : s.breaksH1 w = false) (hbusy : s.status.busy = false) :
    (operationOf (cmdwRsv w) (cmdwOp w) (s.latched w (latchOf (cmdwCmd w) (cmdwRmode w) (cmdwSmode w) (cmdwOp w)))).Inv := by
  have hs := h.steady hf
  have hissued : (s.latched w (latchOf (cmdwCmd w) (cmdwRmode w) (cmdwSmode w) (cmdwOp w))).Busy :=
    ⟨⟨hs.fault, hs.errByte, hs.stores, hs.scan, hs.sent, hs.dests, hs.unspec⟩, rfl, rfl⟩
  have herr : s.err = none := h.err_eq (by obtain hf | hf | hf := h.waiting hbusy <;> rw [hf] <;> nofun)
  unfold operationOf
  split_ifs with hreset hexec
  · exact Busy.inv_reset (s := State.goto _ .rpSel) (hissued.of_call rfl rfl) rfl hreset.2 herr
  · unfold executeOp
    split_ifs with hcheck
    · have hstores : s.spWritten = true ∧ s.rpWritten = true := by
        by_contra hne
        rw [Bool.eq_false_iff] at hh1
        refine hh1 ((s.breaksH1_iff w).2 ⟨(and_mask_eq_two_iff w).2 hexec, hf, ?_⟩)
        simpa only [not_and_or, Bool.not_eq_true] using hne
      exact Executing.inv_startAcquire
        ⟨⟨⟨hs.fault, hs.errByte, hs.stores, hs.scan, hs.sent, Dests.nil_wf, nofun⟩, rfl, rfl⟩, hexec.2, hcheck, hstores.1,
          hstores.2, rfl⟩
    · exact hissued.inv_complete (.inl rfl)
  · exact hissued.inv_complete (.inl rfl)

theorem HostMove.inv {a : HostAct} (hm : s.HostMove a t) (h : s.Inv) : t.Inv := by
  cases hm with
  | ignored => exact h
  | read x => exact h.of_host s.hostq _
  | issue hf hbusy hh1 => exact h.issue hf hh1 hbusy
  | send hbusy hl => exact h.of_stores hbusy hl h.stores.2 h.dests h.unspec
  | recv hbusy hl => exact h.of_stores hbusy h.stores.1 hl Dests.nil_wf nofun

end

/-! ### Progress -/

theorem RecvDesc.rule_isSome {r : RecvDesc} (h : r.valid = true) : ∃ f, r.rule = some f := by
  cases r with
  | reserved => nomatch h
  | _ => exact ⟨_, rfl⟩

/-- In the invariant the block has a move unless it is HALTED. -/
theorem Inv.exists_move {s : State} (h : s.Inv) (hf : s.fsm ≠ .halted) : ∃ t, s.BlockMove t := by
  cases hs : s.fsm
  case halted => exact absurd hs hf
  case idle => exact ⟨s, .wait (.inl hs)⟩
  case done => exact ⟨s, .wait (.inr hs)⟩
  case tx =>
    obtain ⟨⟨i, b⟩, hn⟩ := Option.isSome_iff_exists.1 (h.sent.2 hs)
    exact ⟨_, .send hs hn⟩
  case rxParam =>
    obtain ⟨⟨r, hr, hv, _⟩, _⟩ := h.cursor hs
    obtain ⟨f, hrule⟩ := RecvDesc.rule_isSome hv
    exact ⟨_, .param hs hr hrule⟩
  case rxScan | rxCmd | rxCount | rxEnd => exact ⟨_, .judge (by rw [hs]; rfl)⟩
  all_goals exact ⟨_, .handshake (by rw [hs]; rfl)⟩

end State

/-- Settles O54: each move of the block and each action of the host keeps the invariant. -/
theorem stepKeepsInv : Obligations.StepKeepsInv := by
  intro s t h hstep
  obtain ⟨rest, _, hmove⟩ | ⟨a, rest, _, hmove⟩ := step_cases hstep
  · exact hmove.inv (h.of_host rest s.hostLog)
  · exact hmove.inv (h.of_host rest s.hostLog)

/-- Settles O59: the block has a move in every state of the invariant that is not HALTED. -/
theorem blockNeverStops : Obligations.BlockNeverStops := by
  intro s rest h hf hq
  have hnext : ∃ t, step s = .next t := by
    have hblock (q : List HostAct) : ∃ t, blockStep { s with hostq := q } = .next t := by
      obtain ⟨t, ht⟩ := (h.of_host q s.hostLog).exists_move hf
      exact ⟨t, blockStep_eq_next_iff.2 ht⟩
    obtain hq | hq | hq := hq
    · rw [step_block hq]
      exact hblock s.hostq
    · by_cases hw : s.waitOver = true
      · exact ⟨{ s with hostq := rest }, by simp only [step, stepOnce, hq, hw, if_true]⟩
      · rw [step_wait hq (Bool.eq_false_iff.2 hw)]
        exact hblock s.hostq
    · rw [step_pause hq]
      exact hblock rest
  obtain ⟨t, ht⟩ := hnext
  exact ⟨t, ht, stepKeepsInv s t h ht⟩

end Sys2Proof.Machine
end

section
/-! Every step keeps the level of Select (10_state.md R35) and the capacities of the receive destinations (43_param_decode.md R177 to
R179); both hold at reset, as the invariant does (70_reset_and_hazards.md R240). -/

namespace Sys2Proof.Machine

open Sys2Proof.Config

/-! ### What a byte outside the parameters changes -/

/-- The judgement of a byte changes the sequencer's state, the cursor, SCNT and `err`, and leaves the critical section only by REL. -/
theorem judge_frame {s : State} {f : State → Byte → State} (h : s.fsm.judge = some f) (u : State) (hu : u.fsm = s.fsm) (b : Byte) :
    ∃ g c n e, f u b = { u with fsm := g, cur := c, scnt := n, err := e } ∧ g.selectReleased = false := by
  have hstart : ∃ g c n e, u.startParams = { u with fsm := g, cur := c, scnt := n, err := e } ∧ g.selectReleased = false := by
    refine ⟨_, _, u.scnt, u.err, State.openTop_frame u 0, ?_⟩
    rw [State.openTop_fsm]
    split <;> rfl
  cases hf : s.fsm <;> rw [hf] at h <;> cases h
  case rxScan =>
    unfold State.scanByte State.scanSkip
    split_ifs
    · exact ⟨.rxCmd, u.cur, _, u.err, rfl, rfl⟩
    · exact ⟨.rel, u.cur, _, _, rfl, rfl⟩
    · exact ⟨.rel, u.cur, _, _, rfl, rfl⟩
    · exact ⟨u.fsm, u.cur, _, u.err, rfl, by rw [hu, hf]; rfl⟩
  case rxCmd =>
    unfold State.checkCmd
    split_ifs
    · exact ⟨.rel, u.cur, u.scnt, _, rfl, rfl⟩
    · exact ⟨.rxCount, u.cur, u.scnt, u.err, rfl, rfl⟩
    · exact hstart
  case rxCount =>
    unfold State.checkCount
    split_ifs
    · exact ⟨.rel, u.cur, u.scnt, _, rfl, rfl⟩
    · exact hstart
  case rxEnd =>
    unfold State.checkEnd
    split_ifs
    · exact ⟨.rel, u.cur, u.scnt, _, rfl, rfl⟩
    · exact ⟨.rel, u.cur, u.scnt, u.err, rfl, rfl⟩

/-- A read outside the parameters, failed or not. -/
theorem readReply_frame {s : State} {f : State → Byte → State} (h : s.fsm.judge = some f) :
    (readReply f s).dst = s.dst ∧ (readReply f s).selectN = s.selectN ∧ (readReply f s).fsm.selectReleased = false := by
  cases hx : s.env.xchg with
  | ok b =>
    obtain ⟨g, c, n, e, heq, hg⟩ := judge_frame h (s.exchanged s.build.rxFill (.ok b)) rfl b
    rw [readReply_ok f hx, heq]
    exact ⟨rfl, rfl, hg⟩
  | fail e =>
    rw [readReply_fail f hx]
    exact ⟨rfl, rfl, rfl⟩

namespace State

variable {s t : State}

/-! ### The level of Select -/

theorem abort_selectN (s : State) (f : Failure) : (s.abort f).selectN = s.selectN := by rw [abort_eq]

theorem abort_fsm (s : State) (f : Failure) : (s.abort f).fsm = .done := by rw [abort_eq]

theorem abort_dst (s : State) (f : Failure) : (s.abort f).dst = destsAfter f.code s.cl.op s.dst := by rw [abort_eq]

/-- A failed write to Select stays in LOG, and nothing more is claimed. -/
theorem selectOk_of_failed {e : Event} (he : e.selectFailed = true) (hmem : e ∈ t.log) : t.SelectOk := by
  intro hlog
  have := List.all_eq_true.1 hlog e hmem
  rw [he] at this
  nomatch this

theorem selectOk_of_halted (hf : t.fsm = .halted) : t.SelectOk := fun _ hne => absurd hf hne

theorem selectOk_of_rel (hf : t.fsm = .rel) : t.SelectOk := by
  intro _ _
  rw [hf]
  exact ⟨nofun, nofun⟩

theorem selectOk_of_high (hsel : t.selectN = true) (hf : ¬(t.fsm = .tx ∨ t.fsm.inReply = true)) : t.SelectOk :=
  fun _ _ => ⟨fun _ => hsel, fun hx => absurd hx hf⟩

theorem selectOk_of_low (hsel : t.selectN = false) (hf : t.fsm.selectReleased = false) : t.SelectOk :=
  fun _ _ => ⟨fun hr => absurd hr (by rw [hf]; nofun), fun _ => hsel⟩

theorem all_of_isPrefix {p : Event → Bool} (hl : s.log <+: t.log) (h : t.log.all p = true) : s.log.all p = true := by
  obtain ⟨added, hl⟩ := hl
  rw [← hl, List.all_append, Bool.and_eq_true] at h
  exact h.1

/-- Outside the critical section Select stays released. -/
theorem SelectOk.of_released (h : s.SelectOk) (hs : s.fsm.selectReleased = true) (hl : s.log <+: t.log)
    (hsel : t.selectN = s.selectN) (hf : ¬(t.fsm = .tx ∨ t.fsm.inReply = true)) : t.SelectOk := by
  intro hlog hne
  have hhigh := (h (all_of_isPrefix hl hlog) (by rintro hh; rw [hh] at hs; nomatch hs)).1 hs
  exact selectOk_of_high (hsel.trans hhigh) hf hlog hne

/-- Inside it Select stays granted. -/
theorem SelectOk.of_granted (h : s.SelectOk) (hs : s.fsm = .tx ∨ s.fsm.inReply = true) (hl : s.log <+: t.log)
    (hsel : t.selectN = s.selectN) (hf : t.fsm.selectReleased = false) : t.SelectOk := by
  intro hlog hne
  have hlow := (h (all_of_isPrefix hl hlog) (by rintro hh; rw [hh] at hs; simp [Fsm.inReply] at hs)).2 hs
  exact selectOk_of_low (hsel.trans hlow) hf hlog hne

/-! ### The moves and the level of Select -/

theorem BlockMove.log_isPrefix (h : s.BlockMove t) : s.log <+: t.log := by
  obtain ⟨added, hl, _⟩ := h.keeps.log_adds
  exact ⟨added, hl.symm⟩

theorem selectOk_resetSelect {after : Fsm} (hf : ¬(after = .tx ∨ after.inReply = true)) (s : State) :
    (resetWrite .selectN true after s).SelectOk := by
  unfold resetWrite
  split
  case h_1 => exact selectOk_of_high rfl hf
  case h_2 e l _ =>
    refine selectOk_of_failed (e := .write .selectN true (some e)) rfl ?_
    rw [abort_eq]
    simp [writeFailure]

/-- A write of the other line. -/
theorem resetWrite_resetN {level : Bool} {after : Fsm} (hf : ¬(after = .tx ∨ after.inReply = true)) (s : State) :
    (resetWrite .resetN level after s).selectN = s.selectN ∧
      ¬((resetWrite .resetN level after s).fsm = .tx ∨ (resetWrite .resetN level after s).fsm.inReply = true) := by
  unfold resetWrite
  split
  · exact ⟨rfl, hf⟩
  · rw [abort_selectN, abort_fsm]
    exact ⟨rfl, nofun⟩

theorem acquire_select {f : State → State} (hf : f = acqNrStep ∨ f = acqRStep) (hs : s.fsm = .acqNr ∨ s.fsm = .acqR) :
    (f s).selectN = s.selectN ∧ ¬((f s).fsm = .tx ∨ (f s).fsm.inReply = true) := by
  have hsame (d : ReadyDraw) : ¬((s.sampled d).fsm = .tx ∨ (s.sampled d).fsm.inReply = true) := by
    rw [sampled_fsm]
    obtain hs | hs := hs <;> rw [hs] <;> nofun
  obtain rfl | rfl := hf
  · unfold acqNrStep
    split
    · exact ⟨rfl, hsame _⟩
    · exact ⟨rfl, nofun⟩
    · exact ⟨rfl, nofun⟩
  · unfold acqRStep
    split
    · exact ⟨rfl, nofun⟩
    · exact ⟨rfl, hsame _⟩
    · exact ⟨rfl, nofun⟩

theorem startBody_select (s : State) : s.startBody.selectN = s.selectN ∧ s.startBody.fsm.selectReleased = false := by
  unfold startBody startScan
  split
  · exact ⟨rfl, rfl⟩
  · split <;> exact ⟨rfl, rfl⟩

theorem phaseDone_select (s : State) : s.phaseDone.selectN = s.selectN ∧ ¬(s.phaseDone.fsm = .tx ∨ s.phaseDone.fsm.inReply = true) := by
  unfold phaseDone
  split
  · refine ⟨rfl, ?_⟩
    rw [startAcquire_fsm]
    split <;> nofun
  · exact ⟨rfl, nofun⟩

theorem selectOk_acqSelStep (s : State) : (acqSelStep s).SelectOk := by
  unfold acqSelStep
  split
  · obtain ⟨hsel, hf⟩ := startBody_select (s.wrote .selectN false .ok)
    exact selectOk_of_low hsel hf
  · exact selectOk_of_rel rfl

theorem selectOk_relStep (s : State) : (relStep s).SelectOk := by
  have habort (f : Failure) : ((s.wrote .selectN true .ok).abort f).SelectOk :=
    selectOk_of_high (abort_selectN ..) (by rw [abort_fsm]; nofun)
  have hfailed (e : IoErr) (l : Bool) (f : Failure) : ((s.wrote .selectN true (.fail e l)).abort f).SelectOk := by
    refine selectOk_of_failed (e := .write .selectN true (some e)) rfl ?_
    rw [abort_eq]
    simp [writeFailure]
  unfold relStep
  split
  · obtain ⟨hsel, hf⟩ := phaseDone_select (s.wrote .selectN true .ok)
    exact selectOk_of_high hsel hf
  · exact habort _
  · exact hfailed _ _ _
  · exact hfailed _ _ _

theorem SelectOk.handshake (h : s.SelectOk) {f : State → State} (hf : s.fsm.handshake = some f) : (f s).SelectOk := by
  have hl : s.log <+: (f s).log := (BlockMove.handshake hf).log_isPrefix
  cases hs : s.fsm <;> rw [hs] at hf <;> cases hf
  case rpSel => exact selectOk_resetSelect (after := .rpRlow) nofun s
  case rpRlow =>
    obtain ⟨hsel, hfsm⟩ := resetWrite_resetN (level := false) (after := .rpPulse) nofun s
    exact h.of_released (hs ▸ rfl) hl hsel hfsm
  case rpRhigh =>
    obtain ⟨hsel, hfsm⟩ := resetWrite_resetN (level := true) (after := .rpBoot) nofun s
    exact h.of_released (hs ▸ rfl) hl hsel hfsm
  case rpPulse | rpBoot => exact h.of_released (hs ▸ rfl) hl rfl nofun
  case acqNr =>
    obtain ⟨hsel, hfsm⟩ := acquire_select (.inl rfl) (.inl hs)
    exact h.of_released (hs ▸ rfl) hl hsel hfsm
  case acqR =>
    obtain ⟨hsel, hfsm⟩ := acquire_select (.inr rfl) (.inr hs)
    exact h.of_released (hs ▸ rfl) hl hsel hfsm
  case acqSel => exact selectOk_acqSelStep s
  case rel => exact selectOk_relStep s

theorem sendByte_select (hf : s.fsm = .tx) (b : Byte) :
    (s.sendByte b).selectN = s.selectN ∧ (s.sendByte b).fsm.selectReleased = false := by
  cases hx : s.env.xchg with
  | ok r =>
    rw [sendByte_ok b hx, hf]
    refine ⟨rfl, ?_⟩
    simp only
    split <;> rfl
  | fail e =>
    rw [sendByte_fail b hx]
    exact ⟨rfl, rfl⟩

/-- A byte of a parameter keeps Select, unless it is the fault's. -/
theorem ParamMove.select (h : s.ParamMove t) : t.fsm = .halted ∨ t.selectN = s.selectN ∧ t.fsm.selectReleased = false := by
  cases h with
  | inItem | atEnd | fails => exact .inr ⟨rfl, rfl⟩
  | faults => exact .inl rfl

/-- What a read inside a parameter does, failed or not. -/
theorem Inv.readParam_cases (h : s.Inv) (hf : s.fsm = .rxParam) {r : RecvDesc} (hr : s.curDesc = some r)
    {f : Byte → State → State} (hrule : r.rule = some f) :
    ∃ u : State, u.dst = s.dst ∧ u.rp = s.rp ∧ u.selectN = s.selectN ∧ u.ParamMove (readParam f s) := by
  cases hx : s.env.xchg with
  | ok b =>
    rw [readParam_ok f hx]
    exact ⟨(s.exchanged s.build.rxFill (.ok b)).consumed, rfl, rfl, rfl, h.rule_move hf hr hrule b⟩
  | fail e =>
    rw [readParam_fail f hx]
    exact ⟨s.exchanged s.build.rxFill (.fail e), rfl, rfl, rfl, .fails s.cur s.dst (.transport e) (.refl ..)⟩

theorem BlockMove.selectOk (hm : s.BlockMove t) (h : s.Inv) (hok : s.SelectOk) : t.SelectOk := by
  have hl := hm.log_isPrefix
  cases hm with
  | wait => exact hok
  | handshake hf => exact hok.handshake hf
  | send hf =>
    obtain ⟨hsel, hfsm⟩ := sendByte_select hf _
    exact hok.of_granted (.inl hf) hl hsel hfsm
  | judge hf =>
    obtain ⟨_, hsel, hfsm⟩ := readReply_frame hf
    exact hok.of_granted (.inr (Fsm.inReply_of_judge hf)) hl hsel hfsm
  | param hf hr hrule =>
    obtain ⟨u, _, _, hu, hmove⟩ := h.readParam_cases hf hr hrule
    obtain hhalt | ⟨hsel, hfsm⟩ := hmove.select
    · exact selectOk_of_halted hhalt
    · exact hok.of_granted (.inr (hf ▸ rfl)) hl (hsel.trans hu) hfsm

theorem operationOf_select (rsv : BitVec 2) (op : BitVec 4) (s : State) :
    (operationOf rsv op s).selectN = s.selectN ∧
      ¬((operationOf rsv op s).fsm = .tx ∨ (operationOf rsv op s).fsm.inReply = true) := by
  unfold operationOf
  split_ifs
  · exact ⟨rfl, nofun⟩
  · unfold executeOp
    split_ifs
    · refine ⟨rfl, ?_⟩
      rw [startExecute, startAcquire_fsm]
      split <;> nofun
    · exact ⟨rfl, nofun⟩
  · exact ⟨rfl, nofun⟩

theorem HostMove.selectOk {a : HostAct} (hm : s.HostMove a t) (h : s.Inv) (hok : s.SelectOk) : t.SelectOk := by
  obtain ⟨_, added, hlog, _⟩ := hm.log_adds
  cases hm with
  | ignored | read | send | recv => exact hok
  | issue hf hbusy =>
    obtain ⟨hsel, hfsm⟩ := operationOf_select _ _ (s.latched _ _)
    refine hok.of_released ?_ ⟨added, hlog.symm⟩ hsel hfsm
    obtain hw | hw | hw := h.waiting hbusy
    · rw [hw]; rfl
    · rw [hw]; rfl
    · exact absurd hw hf

/-! ### The moves and the capacities -/

theorem destsAfter_grows (rp : List RecvDesc) (code : ErrCode) (op : BitVec 4) (d : Dests) :
    d.Grows rp (destsAfter code op d) := by
  unfold destsAfter
  split
  · exact .nil ..
  · exact .refl ..

theorem handshake_grows {f : State → State} (hf : s.fsm.handshake = some f) : s.dst.Grows s.rp (f s).dst := by
  have habort (l : Line) (v : Bool) (d : WriteDraw) (f : Failure) :
      s.dst.Grows s.rp ((s.wrote l v d).abort f).dst := by
    rw [abort_dst, wrote_dst]
    exact destsAfter_grows ..
  have hreset (line : Line) (level : Bool) (after : Fsm) : s.dst.Grows s.rp (resetWrite line level after s).dst := by
    unfold resetWrite
    split
    · rw [goto_dst, wrote_dst]
      exact .refl ..
    · exact habort ..
  cases hs : s.fsm <;> rw [hs] at hf <;> cases hf
  case rpSel | rpRlow | rpRhigh => exact hreset ..
  case rpPulse => exact .refl ..
  case rpBoot => exact destsAfter_grows s.rp .ok s.cl.op s.dst
  case acqNr => unfold acqNrStep; split <;> exact .refl ..
  case acqR => unfold acqRStep; split <;> exact .refl ..
  case acqSel =>
    unfold acqSelStep startBody startScan
    split
    · split
      · exact .refl ..
      · split <;> exact .refl ..
    · exact .refl ..
  case rel =>
    unfold relStep phaseDone
    split
    · split
      · exact .refl ..
      · exact destsAfter_grows s.rp .ok s.cl.op s.dst
    all_goals exact habort ..

theorem ParamMove.grows (h : s.ParamMove t) : s.dst.Grows s.rp t.dst := by
  cases h with
  | inItem c d hd | atEnd c d hd | fails c d f hd => exact hd
  | faults => exact .nil ..

theorem sendByte_dst (s : State) (b : Byte) : (s.sendByte b).dst = s.dst := by
  cases hx : s.env.xchg with
  | ok r => rw [sendByte_ok b hx]
  | fail e => rw [sendByte_fail b hx]

theorem BlockMove.grows (hm : s.BlockMove t) (h : s.Inv) : s.dst.Grows s.rp t.dst := by
  cases hm with
  | wait => exact .refl ..
  | handshake hf => exact handshake_grows hf
  | send => rw [sendByte_dst]; exact .refl ..
  | judge hf => rw [(readReply_frame hf).1]; exact .refl ..
  | param hf hr hrule =>
    obtain ⟨u, hd, hrp, _, hmove⟩ := h.readParam_cases hf hr hrule
    rw [← hd, ← hrp]
    exact hmove.grows

theorem operationOf_grows (rsv : BitVec 2) (op : BitVec 4) (s : State) : s.dst.Grows s.rp (operationOf rsv op s).dst := by
  unfold operationOf
  split_ifs
  · exact .refl ..
  · unfold executeOp
    split_ifs
    · exact .nil ..
    · exact destsAfter_grows ..
  · exact destsAfter_grows ..

theorem HostMove.withinCapacity {a : HostAct} (hm : s.HostMove a t) (h : s.WithinCapacity) : t.WithinCapacity := by
  cases hm with
  | ignored | read | send => exact h
  | recv => exact nofun
  | @issue w =>
    have hop := keeps_operationOf (cmdwRsv w) (cmdwOp w)
      (s.latched w (latchOf (cmdwCmd w) (cmdwRmode w) (cmdwSmode w) (cmdwOp w)))
    have hrp : (operationOf (cmdwRsv w) (cmdwOp w)
        (s.latched w (latchOf (cmdwCmd w) (cmdwRmode w) (cmdwSmode w) (cmdwOp w)))).rp = s.rp :=
      congrArg (fun x => x.2.2.2.1) hop.fixed_eq
    show Dests.Within _ _
    rw [hrp]
    exact (operationOf_grows _ _ (s.latched _ _)).within h

end State

/-- Settles O55: each move leaves Select as it is on either side, or writes it, or fails to and says so in LOG. -/
theorem stepKeepsSelect : Obligations.StepKeepsSelect := by
  intro s t h hok hstep
  obtain ⟨rest, _, hmove⟩ | ⟨a, rest, _, hmove⟩ := step_cases hstep
  · exact hmove.selectOk (h.of_host rest s.hostLog) hok
  · exact hmove.selectOk (h.of_host rest s.hostLog) hok

/-- Settles O57: each move writes only values within the descriptor at the cursor, or clears the destinations. -/
theorem stepKeepsCapacity : Obligations.StepKeepsCapacity := by
  intro s t h hcap hstep
  obtain ⟨rest, _, hmove⟩ | ⟨a, rest, _, hmove⟩ := step_cases hstep
  · have hrp : t.rp = s.rp := congrArg (fun x => x.2.2.2.1) hmove.keeps.fixed_eq
    show Dests.Within t.rp t.dst
    rw [hrp]
    exact (hmove.grows (h.of_host rest s.hostLog)).within hcap
  · exact hmove.withinCapacity hcap

/-- Settles O6: at reset nothing is in progress, both stores are empty and LOG holds no event. -/
theorem resetInvariants : Obligations.ResetInvariants := by
  refine ⟨?inv, State.selectOk_of_high rfl nofun, nofun, by decide⟩
  case inv => exact {
    flags := rfl
    errByte := rfl
    stores := ⟨Nat.zero_le _, Nat.zero_le _⟩
    executing := nofun
    resetting := nofun
    phase := ⟨nofun, nofun⟩
    pending := nofun
    scan := ⟨Nat.zero_le _, nofun⟩
    sent := ⟨rfl, nofun⟩
    cursor := nofun
    dests := State.reset_dst_wf
    unspec := nofun }

end Sys2Proof.Machine
end

section
/-! The command word and the host's port: what each accepted command does, and what each broken duty and each access answers
(44_transaction.md R190 to R199, 20_memory.md R61 to R71). -/

namespace Sys2Proof.Machine

open Sys2Proof.Config

/-! ### STATUS -/

theorem flagBit_getLsbD (b : Bool) : (flagBit b).getLsbD 0 = b := by cases b <;> rfl

/-- Settles O11: each field is cut out of the appended parts at its own place. -/
theorem statusLayout : Obligations.StatusLayout := by
  refine ⟨rfl, rfl, rfl, rfl, rfl, rfl, rfl, rfl, rfl, fun st => ⟨?busy, ?done, ?fault, ?reserved, ?code, ?errByte⟩⟩
  case busy => simp only [Status.toWord, BitVec.getLsbD_append, Nat.reduceLT, if_true, flagBit_getLsbD]
  case done =>
    simp only [Status.toWord, BitVec.getLsbD_append, Nat.reduceLT, if_false, if_true, Nat.reduceSub, flagBit_getLsbD]
  case fault =>
    simp only [Status.toWord, BitVec.getLsbD_append, Nat.reduceLT, if_false, if_true, Nat.reduceSub, flagBit_getLsbD]
  case reserved =>
    simp only [Status.toWord, BitVec.getLsbD_append, Nat.reduceLT, if_false, if_true, Nat.reduceSub]
    rfl
  case code =>
    simp (disch := decide) only [Status.toWord, BitVec.extractLsb'_append_eq_of_le, BitVec.extractLsb'_append_eq_right,
      Nat.reduceSub]
  case errByte =>
    simp (disch := decide) only [Status.toWord, BitVec.extractLsb'_append_eq_of_le, Nat.reduceSub]
    exact BitVec.extractLsb'_eq_self

/-! ### Issue -/

theorem encode_of_site_cmdw {i : Instr} (h : Site.cmdw ∈ i.sites) : ∃ w, encode i = .cmdw w := by
  cases i
  case tagReserved | wireStart => simp [Instr.sites] at h
  -- every other instruction has one site
  all_goals cases List.mem_singleton.1 h
  all_goals exact ⟨_, rfl⟩

/-- Settles O12: each row of CMDW is Issue of its code word, which is ignored. -/
theorem cmdwIgnored : Obligations.CmdwIgnored := by
  intro i s hsite h
  obtain ⟨w, hw⟩ := encode_of_site_cmdw hsite
  rw [exec_of_encode_cmdw hw]
  exact issue_ignored _ _ _ h

/-- The destinations after a completion with another code than OK (44_transaction.md R194). -/
theorem destsAfter_of_ne_ok {code : ErrCode} (hc : code ≠ .ok) (op : BitVec 4) (d : Dests) :
    destsAfter code op d = if op = 0x2 then [] else d := by
  simp only [destsAfter, ne_eq, hc, not_false_eq_true, true_and]

theorem unspecAfter_of_ne_ok {code : ErrCode} (hc : code ≠ .ok) (op : BitVec 4) (u : Bool) :
    unspecAfter code op u = if op = 0x2 then true else u := by
  simp only [unspecAfter, ne_eq, hc, not_false_eq_true, true_and]

/-- `Complete(ILLEGAL_COMMAND, none)` (44_transaction.md R197). -/
theorem State.illegal_eq (s : State) :
    s.illegal = { s with
      status := { s.status with busy := false, done := true, code := .illegalCommand, errByte := 0 }
      terr := terrDraw s.env.drawn
      env := { s.env with drawn := s.env.drawn + 1 }
      dst := if s.cl.op = 0x2 then [] else s.dst
      dstUnspec := if s.cl.op = 0x2 then true else s.dstUnspec
      err := none
      fsm := .done
      log := s.log ++ [.complete (Status.toWord
        { s.status with busy := false, done := true, code := .illegalCommand, errByte := 0 })] } := by
  rw [State.illegal, State.complete_eq, destsAfter_of_ne_ok (code := .illegalCommand) nofun,
    unspecAfter_of_ne_ok (code := .illegalCommand) nofun]
  rfl

/-- Issue of an illegal command: both events, and the frame. -/
theorem State.latched_illegal_eq (s : State) (w : Word16) (cl : CmdLatch) :
    (s.latched w cl).illegal = { s with
      status := { s.status with busy := false, done := true, code := .illegalCommand, errByte := 0 }
      cl := cl
      terr := terrDraw s.env.drawn
      env := { s.env with drawn := s.env.drawn + 1 }
      dst := if cl.op = 0x2 then [] else s.dst
      dstUnspec := if cl.op = 0x2 then true else s.dstUnspec
      err := none
      fsm := .done
      log := s.log ++ [.issue w, .complete (Status.toWord
        { s.status with busy := false, done := true, code := .illegalCommand, errByte := 0 })] } := by
  rw [State.illegal_eq, State.latched_log, List.append_assoc]
  rfl

/-- Settles O13: each of the rows issues the illegal operation, which completes at once. -/
theorem illegalCompletes : Obligations.IllegalCompletes := by
  intro s rb v cmd rsv rm sm op hf hbusy i hi
  have hillegal : ∃ w, encode i = .cmdw w ∧ operationOf (cmdwRsv w) (cmdwOp w) = State.illegal := by
    simp only [List.mem_cons, List.not_mem_nil, or_false] at hi
    obtain rfl | rfl | rfl | rfl | rfl | rfl | rfl | rfl | rfl | rfl | rfl | rfl | rfl | rfl | rfl | rfl := hi
    all_goals
      refine ⟨_, rfl, ?_⟩
      simp [operationOf, append_one_ne_zero, one_append_ne_zero]
  obtain ⟨w, hw, hop⟩ := hillegal
  refine ⟨w, _, hw, rfl, ?_⟩
  rw [exec_of_encode_cmdw hw, issue_taken _ _ _ hf hbusy, hop, State.latched_illegal_eq]
  rfl

/-- Settles O14: Issue, and the sequence begins. -/
theorem resetPeerIssues : Obligations.ResetPeerIssues :=
  fun _ _ _ _ _ hf hbusy => ⟨_, rfl, issue_taken _ _ State.resetPeerOp hf hbusy⟩

theorem State.issueCheck_iff (s : State) : s.issueCheck = true ↔
    (∀ d ∈ s.sp, d.valid s.build.listForm s.cl.smode = true) ∧ ∀ r ∈ s.rp, r.valid = true := by
  rw [State.issueCheck, Bool.and_eq_true, List.all_eq_true, List.all_eq_true]

/-- Settles O17: the check holds for the latched mode, so the request phase's acquire begins. -/
theorem executeStarts : Obligations.ExecuteStarts := by
  intro s rb cmd rm sm hf hbusy hsp hrp
  refine ⟨_, rfl, ?_⟩
  have hcheck (w : Word16) : (s.latched w (latchOf cmd rm sm 0x2)).issueCheck = true :=
    (State.issueCheck_iff _).2 ⟨hsp, hrp⟩
  have hexec : exec (.execute rb cmd rm sm) s = _ := issue_taken _ _ State.executeOp hf hbusy
  rw [hexec, State.executeOp, hcheck, if_pos rfl]
  rfl

/-- Settles O18: the check fails for an invalid descriptor, and a reserved tag is met by the check of a latched EXECUTE. -/
theorem executeRejected : Obligations.ExecuteRejected := by
  refine ⟨fun s rb cmd rm sm hf hbusy hbad => ?check, fun s t htag hbusy hop hf => ?tag⟩
  case check =>
    refine ⟨_, _, rfl, rfl, ?_⟩
    have hcheck (w : Word16) : ¬ (s.latched w (latchOf cmd rm sm 0x2)).issueCheck = true := by
      rw [State.issueCheck_iff]
      rintro ⟨hsp, hrp⟩
      obtain ⟨d, hd, hv⟩ | ⟨r, hr, hv⟩ := hbad
      · exact Bool.false_ne_true (hv.symm.trans (hsp d hd))
      · exact Bool.false_ne_true (hv.symm.trans (hrp r hr))
    have hexec : exec (.execute rb cmd rm sm) s = _ := issue_taken _ _ State.executeOp hf hbusy
    rw [hexec, State.executeOp, if_neg (hcheck _), State.latched_illegal_eq]
    rfl
  case tag =>
    refine ⟨_, rfl, ?_⟩
    have hat : s.atIssueCheck = true := by
      obtain hf | hf := hf <;> simp [State.atIssueCheck, hbusy, hop, hf]
    have hexec : exec (.tagReserved t) s = .next s.illegal := if_pos ⟨hat, htag⟩
    rw [hexec, State.illegal_eq, hop]
    rfl

/-! ### The host's accesses -/

section
variable {s : State} {rest : List HostAct}

theorem step_send {l : List SendDesc} (h : s.hostq = .send l :: rest) : step s = writeSend l { s with hostq := rest } := by
  simp only [step, stepOnce, h]

theorem step_recv {l : List RecvDesc} (h : s.hostq = .recv l :: rest) : step s = writeRecv l { s with hostq := rest } := by
  simp only [step, stepOnce, h]

theorem step_readDest {q : Slot} (h : s.hostq = .readDest q :: rest) : step s = readDest q { s with hostq := rest } := by
  simp only [step, stepOnce, h]

theorem step_readByte {q : Slot} {i : Nat} (h : s.hostq = .readByte q i :: rest) :
    step s = readBufByte q i { s with hostq := rest } := by
  simp only [step, stepOnce, h]

end

section
variable {s : State}

theorem writeReg_h2 (w : Word16) (hbusy : s.status.busy = true) : writeReg .cmdw w s = .refused (.brokenDuty .h2) :=
  if_pos hbusy

theorem writeReg_h1 {w : Word16} (hbusy : s.status.busy = false) (h : s.breaksH1 w = true) :
    writeReg .cmdw w s = .refused (.brokenDuty .h1) := by
  simp only [writeReg, hbusy, h, Bool.false_eq_true, if_false, if_true]

theorem readReg_h6 (h : s.status.code ≠ .transport) : readReg .terr s = .refused (.brokenDuty .h6) := if_neg h

theorem writeSend_h3 (l : List SendDesc) (hbusy : s.status.busy = true) : writeSend l s = .refused (.brokenDuty .h3) :=
  if_pos hbusy

theorem writeRecv_h3 (l : List RecvDesc) (hbusy : s.status.busy = true) : writeRecv l s = .refused (.brokenDuty .h3) :=
  if_pos hbusy

theorem writeSend_accepted {l : List SendDesc} (hbusy : s.status.busy = false) (hl : l.length ≤ 255) :
    writeSend l s = .next { s with sp := l, spWritten := true } := by
  rw [writeSend, hbusy, if_neg Bool.false_ne_true, if_neg hl.not_gt]

theorem writeRecv_accepted {l : List RecvDesc} (hbusy : s.status.busy = false) (hl : l.length ≤ 255) :
    writeRecv l s = .next { s with rp := l, dst := [], dstUnspec := false, rpWritten := true } := by
  rw [writeRecv, hbusy, if_neg Bool.false_ne_true, if_neg hl.not_gt]

/-! ### Reads of the receive values -/

/-- Where H4 forbids the read: a written value, or one that a failure made unspecified. -/
theorem State.readWritten_h4 {v : Option HostRead} (h : ¬(s.status.done = true ∧ s.status.code = .ok))
    (hv : v.isSome = true ∨ s.dstUnspec = true) : s.readWritten v = .refused (.brokenDuty .h4) := by
  have hno : s.destsReadable = false := Bool.eq_false_iff.2 fun hr => h (s.destsReadable_iff.1 hr)
  cases v with
  | some x => rw [State.readWritten_some, hno, if_neg Bool.false_ne_true]
  | none =>
    have hu : s.dstUnspec = true := hv.resolve_left nofun
    rw [State.readWritten_none, hu, hno]
    rfl

theorem State.readWritten_answers (x : HostRead) (hdone : s.status.done = true) (hcode : s.status.code = .ok) :
    s.readWritten (some x) = .next (s.hostRead x) := by
  rw [State.readWritten_some, s.destsReadable_iff.2 ⟨hdone, hcode⟩, if_pos rfl]

/-- A value that is not written, where H4 does not forbid the read. -/
theorem State.readWritten_fault (h : s.dstUnspec = false ∨ (s.status.done = true ∧ s.status.code = .ok)) :
    s.readWritten none = .fault .unwrittenRead := by
  rw [State.readWritten_none]
  refine if_neg fun hu => ?_
  rw [Bool.and_eq_true, Bool.not_eq_true'] at hu
  obtain h | h := h
  · rw [h] at hu
    nomatch hu.1
  · rw [s.destsReadable_iff.2 h] at hu
    nomatch hu.2

variable {q : Slot} {i : Nat} {l : Leaf}

theorem readDest_of_none (h : s.dst.get q = none) : readDest q s = s.readWritten none := by rw [readDest, h]; rfl

theorem readDest_of_get (h : s.dst.get q = some l) : readDest q s = s.readWritten (l.whole.map .leaf) := by
  rw [readDest, h]
  rfl

theorem readBufByte_of_none (h : s.dst.get q = none) : readBufByte q i s = s.readWritten none := by
  rw [readBufByte, h]
  rfl

theorem readBufByte_of_get (h : s.dst.get q = some l) : readBufByte q i s = s.readWritten ((l.byteAt i).map .byte) := by
  rw [readBufByte, h]
  rfl

/-- A value is whole unless it is a span whose RLEN is not written. -/
theorem Leaf.whole_of_ne (h : ∀ buf, l ≠ .bytes buf none) : l.whole = some l := by
  unfold Leaf.whole
  split
  case h_1 buf => exact absurd rfl (h buf)
  case h_2 => rfl

theorem Leaf.byteAt_of_lt {buf : Memory} {n : Nat} (h : i < n) : (Leaf.bytes buf (some n)).byteAt i = buf.read i := if_pos h

theorem Leaf.byteAt_of_le {buf : Memory} {n : Nat} (h : n ≤ i) : (Leaf.bytes buf (some n)).byteAt i = none := if_neg h.not_gt

theorem Leaf.byteAt_of_read_none {buf : Memory} (h : buf.read i = none) (n : Option Nat) : (Leaf.bytes buf n).byteAt i = none := by
  cases n with
  | none => exact h
  | some n => simp only [Leaf.byteAt, h, ite_self]

end

/-- Settles O8: each access reaches the check of its own duty. -/
theorem brokenDutiesRefused : Obligations.BrokenDutiesRefused := by
  intro s rest
  refine ⟨fun w hq hbusy hf hw hstore => ?h1, fun w hq hbusy => ?h2, fun l hq hbusy => ?send, fun l hq hbusy => ?recv,
    fun hread => ⟨fun q l hq hget hwhole => ?dest, fun q i buf b hq hget hb => ?byteOpen, fun q i buf n b hq hget hi hb => ?byte,
      fun q hq hu => ?destUnspec, fun q i hq hu => ?byteUnspec⟩, fun hq hcode => ?h6⟩
  case h1 =>
    rw [step_writeReg hq]
    exact writeReg_h1 hbusy ((State.breaksH1_iff ..).2 ⟨hw, hf, hstore⟩)
  case h2 => rw [step_writeReg hq]; exact writeReg_h2 w hbusy
  case send => rw [step_send hq]; exact writeSend_h3 l hbusy
  case recv => rw [step_recv hq]; exact writeRecv_h3 l hbusy
  case dest =>
    rw [step_readDest hq, readDest_of_get (s := { s with hostq := rest }) hget, Leaf.whole_of_ne hwhole]
    exact State.readWritten_h4 hread (.inl rfl)
  case byteOpen =>
    rw [step_readByte hq, readBufByte_of_get (s := { s with hostq := rest }) hget]
    exact State.readWritten_h4 hread (.inl (by simp [Leaf.byteAt, hb]))
  case byte =>
    rw [step_readByte hq, readBufByte_of_get (s := { s with hostq := rest }) hget, Leaf.byteAt_of_lt hi, hb]
    exact State.readWritten_h4 hread (.inl rfl)
  case destUnspec => rw [step_readDest hq]; exact State.readWritten_h4 hread (.inr hu)
  case byteUnspec => rw [step_readByte hq]; exact State.readWritten_h4 hread (.inr hu)
  case h6 => rw [step_readReg hq]; exact readReg_h6 hcode

/-- Settles O10: a store is written while not BUSY; a read is answered, or faults, by what its slot holds. -/
theorem storeAccess : Obligations.StoreAccess := by
  refine ⟨fun s rest l hq hbusy hl => ?send, fun s rest l hq hbusy hl => ?recv, fun s rest q i hq => ⟨fun hu => ?byteFaults, ?byte⟩,
    fun s rest q hq => ⟨fun hu => ?destFaults, fun hdone hcode => ?dest⟩⟩
  case send => rw [step_send hq]; exact writeSend_accepted hbusy hl
  case recv => rw [step_recv hq]; exact writeRecv_accepted hbusy hl
  case byteFaults =>
    have hfault := State.readWritten_fault (s := { s with hostq := rest }) hu
    rw [step_readByte hq]
    refine ⟨fun hget => ?_, fun buf n hget hb => ?_, fun buf n hget hi => ?_⟩
    · exact (readBufByte_of_none (s := { s with hostq := rest }) hget).trans hfault
    · rw [readBufByte_of_get (s := { s with hostq := rest }) hget, Leaf.byteAt_of_read_none hb]
      exact hfault
    · rw [readBufByte_of_get (s := { s with hostq := rest }) hget, Leaf.byteAt_of_le hi]
      exact hfault
  case byte =>
    intro buf n b hdone hcode hget hi hb
    rw [step_readByte hq, readBufByte_of_get (s := { s with hostq := rest }) hget, Leaf.byteAt_of_lt hi, hb]
    exact State.readWritten_answers _ hdone hcode
  case destFaults =>
    have hfault := State.readWritten_fault (s := { s with hostq := rest }) hu
    rw [step_readDest hq]
    refine ⟨fun hget => ?_, fun buf hget => ?_⟩
    · exact (readDest_of_none (s := { s with hostq := rest }) hget).trans hfault
    · rw [readDest_of_get (s := { s with hostq := rest }) hget]
      exact hfault
  case dest =>
    have hanswer {l : Leaf} (hget : s.dst.get q = some l) (hwhole : l.whole = some l) :
        step s = .next { s with hostq := rest, hostLog := s.hostLog ++ [.leaf l] } := by
      rw [step_readDest hq, readDest_of_get (s := { s with hostq := rest }) hget, hwhole]
      exact State.readWritten_answers _ hdone hcode
    exact ⟨fun v h => hanswer h rfl, fun v h => hanswer h rfl, fun v h => hanswer h rfl, fun buf n h => hanswer h rfl,
      fun k h => hanswer h rfl⟩

/-! ### The step -/

theorem replyStep_of_decode_ok {s : State} {site : Site} {b : Byte} {i : Instr} (h : s.env.xchg = .ok b)
    (hd : decode site (.wire [b]) = .ok i) : replyStep site s = exec i s := by
  simp only [replyStep, h, hd]

/-- Settles O7: the block's position says which word the step decodes. -/
theorem stepRunsDecoded : Obligations.StepRunsDecoded := by
  refine ⟨fun s w rest hq hbusy hduty => ?cmdw, fun s i b hq hf hn => ?tx, fun s site b i hq hsite hx hd => ?reply,
    fun s r hq hf hr => ?param, fun s rest hq hdone hfault => ?wait, fun s hq => step_block hq⟩
  case cmdw => exact (step_writeReg hq).trans (writeReg_cmdw hbusy hduty)
  case tx => rw [step_block hq, blockStep_tx hf, requestStep, hn]
  case reply =>
    rw [step_block hq, ← replyStep_of_decode_ok hx hd]
    simp only [List.mem_cons, List.not_mem_nil, or_false, Prod.mk.injEq] at hsite
    obtain ⟨hf, rfl⟩ | ⟨hf, rfl⟩ | ⟨hf, rfl⟩ | ⟨hf, rfl⟩ := hsite
    all_goals rw [blockStep, hf]
  case param => rw [step_block hq, blockStep_rxParam hf, paramStep, hr]
  case wait => exact step_wait hq (by rw [State.waitOver, hdone, hfault]; rfl)

end Sys2Proof.Machine
end

section
/-! The handshake: the peer reset, the acquire and the release (40_handshake.md R113 to R117, 44_transaction.md R193 to R196). -/

namespace Sys2Proof.Machine

open Sys2Proof.Config

/-! ### One step -/

theorem step_handshake {s : State} {f : State → State} (hq : s.hostq = []) (hf : s.fsm.handshake = some f) :
    step s = .next (f s) := by
  rw [step_block hq, blockStep_of_handshake hf]

/-- A run that begins with a step of the handshake. -/
theorem run_handshake {s u : State} {f : State → State} (n : Nat) (hq : s.hostq = []) (hf : s.fsm.handshake = some f)
    (hu : f s = u) : Sys2Proof.core.run (n + 1) s = Sys2Proof.core.run n u :=
  run_next n (hu ▸ step_handshake hq hf)

/-- `Complete(OK, none)` leaves the destinations (44_transaction.md R194). -/
theorem State.complete_ok_eq (s : State) :
    s.complete .ok 0 = { s with
      status := { s.status with busy := false, done := true, code := .ok, errByte := 0 }
      terr := terrDraw s.env.drawn
      env := { s.env with drawn := s.env.drawn + 1 }
      err := none
      fsm := .done
      log := s.log ++ [.complete (Status.toWord
        { s.status with busy := false, done := true, code := .ok, errByte := 0 })] } := by
  have hd : destsAfter .ok s.cl.op s.dst = s.dst := if_neg fun h => h.1 rfl
  have hu : unspecAfter .ok s.cl.op s.dstUnspec = s.dstUnspec := if_neg fun h => h.1 rfl
  rw [State.complete_eq, hd, hu]
  rfl

/-! ### The peer reset -/

/-- A good write of either line. -/
theorem resetWrite_ok {s : State} {ds : List WriteDraw} (hw : s.env.writeIn = .ok :: ds) (line : Line) (level : Bool)
    (after : Fsm) :
    resetWrite line level after s = { s with
      selectN := if line = .selectN then level else s.selectN
      resetN := if line = .resetN then level else s.resetN
      env := { s.env with writeIn := ds }
      fsm := after
      log := s.log ++ [.write line level none] } := by
  obtain ⟨hdraw, hdrop⟩ := Env.write_cons hw
  rw [resetWrite, hdraw]
  simp only [State.wrote_eq, hdrop]
  rfl

/-- Settles O15: the five calls one after another, each from the state that the call before it leaves. -/
theorem resetPeerRuns : Obligations.ResetPeerRuns := by
  intro s more hq hf hw
  refine ⟨_, rfl, ?_⟩
  refine (run_handshake 4 hq (f := rpSelStep) (by rw [hf]; rfl) (resetWrite_ok hw ..)).trans ?_
  refine (run_handshake 3 (by exact hq) (f := rpRlowStep) (by rfl) (resetWrite_ok (by rfl) ..)).trans ?_
  refine (run_handshake 2 (by exact hq) (f := rpPulseStep) (by rfl) rfl).trans ?_
  refine (run_handshake 1 (by exact hq) (f := rpRhighStep) (by rfl) (resetWrite_ok (by rfl) ..)).trans ?_
  refine (run_handshake 0 (by exact hq) (f := rpBootStep) (by rfl) (State.complete_ok_eq _)).trans ?_
  simp only [rpPulseStep, State.delayed, State.event, State.goto, List.append_assoc, reduceCtorEq, if_false, if_true]
  rfl

/-! ### The acquire -/

/-- Settles O29: a sample goes on at the awaited level; the Select write begins the phase's body. -/
theorem acquireSteps : Obligations.AcquireSteps := by
  intro s hq
  refine ⟨fun v hv hf => ?notReady, fun v hv hf => ?ready, fun e he hf => ?failed, fun hw hf hph => ?request,
    fun hw hf hph hpos => ?reply, fun hw hf hph hzero => ?noScan, fun e l hw hf => ?writeFailed⟩
  case notReady =>
    rw [step_handshake (f := acqNrStep) hq (by rw [hf]; rfl), acqNrStep, hv]
    cases v
    · rfl
    · simp only [if_true, ← hf]
      rfl
  case ready =>
    rw [step_handshake (f := acqRStep) hq (by rw [hf]; rfl), acqRStep, hv]
    cases v
    · simp only [Bool.false_eq_true, if_false, ← hf]
      rfl
    · rfl
  case failed =>
    obtain hf | hf := hf
    · rw [step_handshake (f := acqNrStep) hq (by rw [hf]; rfl), acqNrStep, he]
      rfl
    · rw [step_handshake (f := acqRStep) hq (by rw [hf]; rfl), acqRStep, he]
      rfl
  case request =>
    rw [step_handshake (f := acqSelStep) hq (by rw [hf]; rfl), acqSelStep, hw]
    simp only [State.startBody, State.wrote_ph, hph]
    rfl
  case reply =>
    rw [step_handshake (f := acqSelStep) hq (by rw [hf]; rfl), acqSelStep, hw]
    simp only [State.startBody, State.wrote_ph, hph, State.startScan, State.wrote_build, hpos.ne', if_false]
    rfl
  case noScan =>
    rw [step_handshake (f := acqSelStep) hq (by rw [hf]; rfl), acqSelStep, hw]
    simp only [State.startBody, State.wrote_ph, hph, State.startScan, State.wrote_build, hzero, if_true]
    rfl
  case writeFailed =>
    rw [step_handshake (f := acqSelStep) hq (by rw [hf]; rfl), acqSelStep, hw]
    rfl

/-- One sample of the unwanted level. -/
theorem step_sampled {s : State} {v : Bool} {ds : List ReadyDraw} (hq : s.hostq = [])
    (hf : (s.fsm = .acqR ∧ v = false) ∨ (s.fsm = .acqNr ∧ v = true)) (hr : s.env.readyIn = .ok v :: ds) :
    step s = .next { s with env := { s.env with readyIn := ds }, log := s.log ++ [.ready (.ok v)] } := by
  obtain ⟨hdraw, hdrop⟩ := Env.ready_cons hr
  obtain ⟨hf, rfl⟩ | ⟨hf, rfl⟩ := hf
  · rw [step_handshake (f := acqRStep) hq (by rw [hf]; rfl), acqRStep, hdraw, ← hdrop]
    rfl
  · rw [step_handshake (f := acqNrStep) hq (by rw [hf]; rfl), acqNrStep, hdraw, ← hdrop]
    rfl

/-- Settles O30: by induction on the number of samples. -/
theorem acquireHangs : Obligations.AcquireHangs := by
  intro n
  induction n with
  | zero =>
    intro s more v _ _ hr
    rw [run_zero, List.replicate_zero, List.append_nil]
    rw [List.replicate_zero, List.nil_append] at hr
    rw [← hr]
  | succ n ih =>
    intro s more v hq hf hr
    have hrest := ih { s with
      env := { s.env with readyIn := List.replicate n (.ok v) ++ more }
      log := s.log ++ [.ready (.ok v)] } more v hq hf rfl
    refine (run_next n (step_sampled hq hf hr)).trans (hrest.trans ?_)
    rw [List.append_assoc]
    rfl

/-! ### The release -/

theorem relStep_ok {s : State} (hw : s.env.write = .ok) (he : s.err = none) :
    relStep s = (s.wrote .selectN true .ok).phaseDone := by
  rw [relStep, hw, he]

/-- The failure that a release reports: the phase's own, or else that of the Select write (60_exceptions.md R219). -/
theorem relStep_failed {s : State} {f : Failure}
    (h : s.err = some f ∨ (s.err = none ∧ ∃ e l, s.env.write = .fail e l ∧ f = .transport e)) :
    relStep s = (s.wrote .selectN true s.env.write).abort f := by
  obtain he | ⟨he, e, l, hw, rfl⟩ := h
  · rw [relStep, he]
    cases s.env.write <;> rfl
  · rw [relStep, he, hw]

/-- The Release of a phase that failed, when its own write succeeds. -/
theorem relStep_err {s : State} {f : Failure} (he : s.err = some f) (hw : s.env.write = .ok) :
    relStep s = (s.wrote .selectN true .ok).abort f := by
  rw [relStep_failed (.inl he), hw]

theorem step_rel {s : State} (hq : s.hostq = []) (hf : s.fsm = .rel) : step s = .next (relStep s) :=
  step_handshake hq (by rw [hf]; rfl)

theorem State.phaseDone_req {s : State} (h : s.ph = .req) : s.phaseDone = State.startAcquire { s with ph := .rep } := by
  rw [State.phaseDone, h]

theorem State.phaseDone_rep {s : State} (h : s.ph = .rep) : s.phaseDone = s.complete .ok 0 := by
  rw [State.phaseDone, h]

/-- Settles O31: a good Release ends the phase, and the reply phase's end is Complete(OK). -/
theorem phaseEnds : Obligations.PhaseEnds := by
  intro s hq hf hw he
  refine ⟨fun hph => ?request, fun hph => ⟨_, rfl, ?reply⟩⟩
  case request =>
    rw [step_rel hq hf, relStep_ok hw he, State.phaseDone_req ((State.wrote_ph ..).trans hph)]
    simp only [State.startAcquire, State.wrote_eq, ← he]
    rfl
  case reply =>
    rw [step_rel hq hf, relStep_ok hw he, State.phaseDone_rep ((State.wrote_ph ..).trans hph)]
    simp only [State.complete_ok_eq, State.wrote_eq, List.append_assoc, ← he]
    rfl

/-- An aborted EXECUTE leaves no receive value (44_transaction.md R194). -/
theorem State.abort_execute_eq {s : State} (hop : s.cl.op = 0x2) (f : Failure) :
    s.abort f = { s with
      status := { s.status with busy := false, done := true, code := f.code, errByte := f.byte }
      terr := (s.abort f).terr
      env := (s.abort f).env
      dst := []
      dstUnspec := true
      err := none
      fsm := .done
      log := s.log ++ [.complete (Status.toWord
        { s.status with busy := false, done := true, code := f.code, errByte := f.byte })] } := by
  have hd := (destsAfter_of_ne_ok f.code_ne_ok s.cl.op s.dst).trans (if_pos hop)
  have hu := (unspecAfter_of_ne_ok f.code_ne_ok s.cl.op s.dstUnspec).trans (if_pos hop)
  rw [State.abort_eq, hd, hu]
  rfl

/-- Settles O32: the step is one Select write and the abort with the first failure. -/
theorem firstFailureWins : Obligations.FirstFailureWins := by
  intro s f hq hf hop h
  have hop' : (s.wrote .selectN true s.env.write).cl.op = 0x2 := by rwa [State.wrote_cl]
  have habort := State.abort_execute_eq hop' f
  refine ⟨_, _, step_rel hq hf, rfl, ?_⟩
  rw [relStep_failed h]
  refine ⟨by rw [habort, State.wrote_status], ?_, ?_, ?_, ?_⟩
  · rintro e rfl
    rfl
  · rw [habort, State.wrote_selectN, if_pos rfl]
  · rw [habort, State.wrote_log, State.wrote_status, List.append_assoc]
    rfl
  · rw [habort, State.wrote_eq]
    rfl

end Sys2Proof.Machine
end

section
/-! The reply outside the parameters: the scan up to its ceiling, a reply that begins with ERR, and the command and count checks
(41_frame_codec.md R134 to R141). -/

namespace Sys2Proof.Machine

open Sys2Proof.Config

/-! ### The scan -/

theorem step_judge {s : State} {f : State → Byte → State} {b : Byte} {ds : List XchgDraw} (hq : s.hostq = [])
    (hf : s.fsm.judge = some f) (hx : s.env.xchgIn = .ok b :: ds) :
    step s = .next (f { s with env := { s.env with xchgIn := ds }, log := s.log ++ [.xchg s.build.rxFill (.ok b)] } b) := by
  obtain ⟨hdraw, hdrop⟩ := Env.xchg_cons hx
  rw [step_block hq, blockStep_of_judge hf, readReply_ok f hdraw, State.exchanged, hdrop]

/-- Bytes that are no sentinels are skipped as long as the ceiling is not reached (41_frame_codec.md R135). -/
theorem run_skips {more : List XchgDraw} : ∀ {bs : List Byte} {s : State}, s.hostq = [] → s.fsm = .rxScan →
    s.scnt + bs.length < s.build.scanCeiling → (∀ b ∈ bs, b ≠ START ∧ b ≠ ERR) → s.env.xchgIn = bs.map .ok ++ more →
    Sys2Proof.core.run bs.length s = .next { s with
      scnt := s.scnt + bs.length
      env := { s.env with xchgIn := more }
      log := s.log ++ bs.map (fun b => .xchg s.build.rxFill (.ok b)) }
  | [], s, _, _, _, _, hx => by
    have hmore : s.env.xchgIn = more := hx
    rw [List.map_nil, List.append_nil, ← hmore]
    rfl
  | b :: bs, s, hq, hf, hlt, hbs, hx => by
    obtain ⟨⟨hs, he⟩, hrest⟩ := List.forall_mem_cons.1 hbs
    rw [List.length_cons] at hlt ⊢
    rw [run_next _ (step_judge hq (by rw [hf]; rfl) hx), State.scanByte_other hs he,
      State.scanSkip_below (Nat.ne_of_lt (by show s.scnt + 1 < s.build.scanCeiling; omega)), List.map_cons, Nat.add_comm bs.length,
      ← Nat.add_assoc]
    refine (run_skips
      (s := { s with
        scnt := s.scnt + 1
        env := { s.env with xchgIn := bs.map .ok ++ more }
        log := s.log ++ [.xchg s.build.rxFill (.ok b)] })
      hq hf (by show s.scnt + 1 + bs.length < s.build.scanCeiling; omega) hrest rfl).trans ?_
    rw [List.append_assoc]
    rfl

/-- Settles O34: all bytes but the last are skipped, and the last one reaches the ceiling. -/
theorem scanTimesOut : Obligations.ScanTimesOut := by
  intro s bs more hq hf hzero hpos hlen hbs hx
  obtain ⟨front, b, rfl⟩ := (List.eq_nil_or_concat' bs).resolve_left (by rintro rfl; exact hpos.ne hlen)
  rw [List.length_append, List.length_singleton] at hlen
  obtain ⟨hs, he⟩ := hbs b (by simp)
  have hskip := run_skips (more := .ok b :: more) hq hf (by omega) (fun c hc => hbs c (List.mem_append_left _ hc)) (by simpa using hx)
  rw [← hlen, run_add hskip]
  refine (run_next 0 (step_judge (f := State.scanByte) (by exact hq) (by show s.fsm.judge = _; rw [hf]; rfl) (by rfl))).trans ?_
  rw [State.scanByte_other hs he, State.scanSkip_ceiling (by show s.scnt + front.length + 1 = s.build.scanCeiling; omega)]
  simp only [hzero, Nat.zero_add, hlen, List.map_append, List.append_assoc]
  rfl

/-- Settles O35: the bytes before START are below the ceiling. -/
theorem scanFindsStart : Obligations.ScanFindsStart := by
  intro s bs more hq hf hzero hle hbs hx
  have hskip := run_skips hq hf (by omega) hbs hx
  rw [run_add hskip]
  refine (run_next 0 (step_judge (f := State.scanByte) (by exact hq) (by show s.fsm.judge = _; rw [hf]; rfl) (by rfl))).trans ?_
  rw [State.scanByte_start]
  simp only [State.scanFound, hzero, Nat.zero_add, List.map_append, List.append_assoc]
  rfl

/-- Settles O36: ERR fails the scan, and the Release that follows completes with it. -/
theorem errReply : Obligations.ErrReply := by
  intro s more w hq hf hop hx hw
  have hdraw : s.env.write = .ok := (Env.write_cons hw).1
  have hscan := step_judge hq (f := State.scanByte) (by rw [hf]; rfl) hx
  rw [State.scanByte_err] at hscan
  refine ⟨_, (run_next 1 hscan).trans (run_next 0 ((step_rel (by exact hq) (by rfl)).trans
    (congrArg _ (relStep_err (f := .errorResponse) (by rfl) (by exact hdraw))))), ?_⟩
  rw [State.abort_execute_eq (by rwa [State.wrote_cl])]
  refine ⟨rfl, rfl, rfl, ?_, rfl, rfl, ?_⟩
  · show (Env.dropWrite _).xchgIn = more
    simp only [Env.dropWrite, State.scanErr_env, hw]
  · simp only [State.wrote_log, State.scanErr_log, List.append_assoc]
    rfl

end Sys2Proof.Machine
end

section
/-! The wire units of the request, where they are bytes of a parameter (42_param_encode.md R151, R158, R159). -/

namespace Sys2Proof.Machine

open Sys2Proof.Config

/-- What a unit that is sent leaves. -/
theorem sends_of_eq {s : State} {b r : Byte} {o : Host.Outcome State Fault Refusal} (hx : s.env.xchg = .ok r)
    (ho : o = .next (s.sendByte b)) :
    ∃ t, o = .next t ∧ t.log = s.log ++ [.xchg b (.ok r)] ∧ t.txIdx = s.txIdx + 1 ∧ t.txn = s.txn + 1 ∧
      t = { s with txn := t.txn, txIdx := t.txIdx, env := s.env.dropXchg, fsm := t.fsm, log := t.log } := by
  refine ⟨_, ho, ?_⟩
  rw [State.sendByte_ok b hx]
  exact ⟨rfl, rfl, rfl, rfl⟩

theorem State.requestByteIs_of_get {s : State} {n : Nat} {i : Instr} {b : Byte} (h : s.requestUnits[n]? = some (i, b)) (c : Byte) :
    s.requestByteIs n c = (b == c) := by
  rw [State.requestByteIs, h]

/-- While a later byte of the frame is left, the next byte is one of the frame. -/
theorem State.nextUnit_of_succ {s : State} {u : Unit8} (h : s.requestUnits[s.txIdx + 1]? = some u) :
    s.nextUnit = s.requestUnits[s.txIdx]? := by
  have hlt : s.txIdx < s.requestUnits.length := by
    have := (List.getElem?_eq_some_iff.1 h).1
    omega
  rw [State.nextUnit, List.getElem?_eq_getElem hlt]

theorem append_high (hi lo : Byte) : (hi ++ lo).extractLsb' 8 8 = hi := BitVec.extractLsb'_append_eq_left

theorem append_low (hi lo : Byte) : (hi ++ lo).extractLsb' 0 8 = lo := BitVec.extractLsb'_append_eq_right

/-- Settles O27: each unit is sent as its byte; a long prefix is its first byte or its second. -/
theorem sendsUnits : Obligations.SendsUnits := by
  intro s b r i hf hn hx
  refine ⟨?short, ?nul, fun j lo hlo => sends_of_eq hx ?first, fun j hi hpos hhi hb => sends_of_eq hx ?second⟩
  case short =>
    simp only [List.forall_mem_cons, List.not_mem_nil, false_implies, implies_true, and_true]
    exact ⟨sends_of_eq hx (wireUnit_tx hf hn), sends_of_eq hx (wireUnit_tx hf hn)⟩
  case nul =>
    rintro rfl
    exact sends_of_eq hx (wireUnit_tx hf hn)
  case first =>
    have hb := (State.nextUnit_of_succ hlo).symm.trans hn
    show execWireLenLong (b ++ lo) s = _
    simp [execWireLenLong, append_high, append_low, hf, State.requestByteIs_of_get hb, State.requestByteIs_of_get hlo]
  case second =>
    show execWireLenLong (hi ++ b) s = _
    simp only [execWireLenLong, append_high, append_low, hf, if_true, State.requestByteIs_of_get hb,
      State.requestByteIs_of_get hhi, hpos, BEq.rfl, and_self]
    split
    case isTrue h => rw [beq_iff_eq.1 h.1]
    case isFalse => rfl

end Sys2Proof.Machine
end

section
/-! The command and count checks of the reply, and failed reads (41_frame_codec.md R137, R138; 40_handshake.md R112). -/

namespace Sys2Proof.Machine

open Sys2Proof.Config

/-- A row of one wire byte, in a state of the reply outside the parameters. -/
theorem exec_of_judge {i : Instr} {b : Byte} {s : State} {f : State → Byte → State} (h : encode i = .wire [b])
    (hf : s.fsm.judge = some f) : exec i s = .next (f (s.exchanged s.build.rxFill (.ok b)) b) := by
  obtain ⟨mn, hexec⟩ := exec_receives_of_encode_wire h (s := s) (fun htx => by simp [htx, Fsm.judge] at hf)
  exact hexec.trans (receive_of_judge hf b mn)

/-- The parameters begin at the first one, with a fresh cursor (41_frame_codec.md R134). -/
theorem State.startParams_eq (s : State) : s.startParams = { s with
    fsm := if 0 < s.rp.length then .rxParam else .rxEnd
    cur := { s.cur with p := 0, stack := [], i := 0, stage := openStage s.build.listForm s.rp[0]?, held := [] } } := by
  rw [State.startParams, State.openTop]
  split
  case isTrue h =>
    have hdesc : slotDesc s.rp 0 0 = s.rp[0]? := by
      rw [slotDesc, List.getElem?_eq_getElem h]
      rfl
    rw [State.openItem, List.length_nil, hdesc]
  case isFalse h =>
    rw [List.getElem?_eq_none (Nat.le_of_not_lt h)]
    rfl

theorem append_inj {v v' : BitVec 1} {x x' : BitVec 7} (h : v ++ x = v' ++ x') : v = v' ∧ x = x' := by
  constructor
  · rw [← BitVec.extractLsb'_append_eq_left (a := v) (b := x), h, BitVec.extractLsb'_append_eq_left]
  · rw [← BitVec.extractLsb'_append_eq_right (a := v) (b := x), h, BitVec.extractLsb'_append_eq_right]

/-- The reply's command-identifier byte has the reply bit set (30_encoding.md R88). -/
theorem State.cmdReply_eq (s : State) : s.cmdReply = (1 : BitVec 1) ++ s.cl.cmd := by
  have h : ∀ v : BitVec 7, v.zeroExtend 8 ||| REPLY_FLAG = (1 : BitVec 1) ++ v := by decide
  exact h s.cl.cmd

theorem State.checkCmd_other {s : State} {c : Byte} (h : c ≠ s.cmdReply) :
    s.checkCmd c = s.failPhase (.unexpectedByte c) := if_pos h

theorem State.checkCmd_reply {s : State} {c : Byte} (h : c = s.cmdReply) :
    s.checkCmd c = if s.build.wv.countByte then s.goto .rxCount else s.startParams := if_neg (not_not.2 h)

/-- Settles O37: a byte of either reply bit is compared with the one expected. -/
theorem cmdCheck : Obligations.CmdCheck := by
  intro s hf
  have hjudge : s.fsm.judge = some State.checkCmd := by rw [hf]; rfl
  refine ⟨fun opc => ?request, fun opc hopc => ?otherCode, fun hc => ?count, fun hc => ?noCount⟩
  case request =>
    have hne : (0 : BitVec 1) ++ opc ≠ (1 : BitVec 1) ++ s.cl.cmd := fun h => absurd (append_inj h).1 (by decide)
    rw [exec_of_judge rfl hjudge, State.checkCmd_other (by rwa [State.cmdReply_eq])]
    rfl
  case otherCode =>
    have hne : (1 : BitVec 1) ++ opc ≠ (1 : BitVec 1) ++ s.cl.cmd := fun h => hopc (append_inj h).2
    rw [exec_of_judge rfl hjudge, State.checkCmd_other (by rwa [State.cmdReply_eq])]
    rfl
  case count =>
    rw [exec_of_judge rfl hjudge, State.checkCmd_reply (by rw [State.cmdReply_eq]; rfl)]
    exact congrArg _ (if_pos hc)
  case noCount =>
    rw [exec_of_judge rfl hjudge, State.checkCmd_reply (by rw [State.cmdReply_eq]; rfl)]
    refine congrArg _ ((if_neg (by simp [hc])).trans ?_)
    rw [State.startParams_eq]
    rfl

/-- Settles O38: the count is compared with the number of receive parameters. -/
theorem countCheck : Obligations.CountCheck := by
  intro s n hf
  have hjudge : s.fsm.judge = some State.checkCount := by rw [hf]; rfl
  rw [show exec (.wireCount n) s = _ from exec_of_judge rfl hjudge]
  refine ⟨fun hn => ?other, fun hn => ?same⟩
  case other =>
    exact congrArg _ (if_pos hn)
  case same =>
    refine congrArg _ ((if_neg (not_not.2 hn)).trans ?_)
    rw [State.startParams_eq]
    rfl

/-- A tag that is not reserved has a receive rule (30_encoding.md R84). -/
theorem RecvDesc.rule_of_tag {r : RecvDesc} (h : tagReserved r.tag = false) : ∃ f, r.rule = some f := by
  cases hr : r.rule with
  | some f => exact ⟨f, rfl⟩
  | none =>
    obtain ⟨t, rfl⟩ := RecvDesc.rule_eq_none hr
    have hres : ∀ t : BitVec 3, tagReserved (RecvDesc.reserved t).tag = true := by decide
    simp [hres t] at h

/-- Settles O40: every reading state draws the exchange first. -/
theorem readFails : Obligations.ReadFails := by
  intro s e he
  refine ⟨fun f hmem hf hq => ?outside, fun r hf hr ht => ?param⟩
  case outside =>
    obtain ⟨g, hg⟩ : ∃ g, f.judge = some g := by
      simp only [List.mem_cons, List.not_mem_nil, or_false] at hmem
      obtain rfl | rfl | rfl | rfl := hmem <;> exact ⟨_, rfl⟩
    rw [step_block hq, blockStep_of_judge (hf ▸ hg), readReply_fail g he]
    rfl
  case param =>
    obtain ⟨f, hrule⟩ := RecvDesc.rule_of_tag ht
    rw [exec_decodeRecvTag hf hr hrule, readParam_fail f he]

end Sys2Proof.Machine
end

section
/-! One byte inside a parameter: length prefixes and scalars (43_param_decode.md R171 to R176). -/

namespace Sys2Proof.Machine

open Sys2Proof.Config

/-! ### The byte that is read -/

/-- The byte `b` is read inside a parameter, and every enclosing sub-list has counted it (43_param_decode.md R179). -/
def State.readIn (s : State) (b : Byte) : State := (s.exchanged s.build.rxFill (.ok b)).consumed

theorem exec_readIn {s : State} {b : Byte} {r : RecvDesc} {f : Byte → State → State} (hf : s.fsm = .rxParam)
    (hx : s.env.xchg = .ok b) (hr : s.curDesc = some r) (hrule : r.rule = some f) :
    exec (decodeRecvTag r.tag) s = .next (f b (s.readIn b)) := by
  rw [exec_decodeRecvTag hf hr hrule, readParam_ok f hx]
  rfl

/-- The byte `b` completes the length prefix, whose value is `l` (43_param_decode.md R171). -/
def State.PrefixIs (s : State) (b : Byte) (l : Word16) : Prop :=
  (s.cl.rmode = .short ∧ s.cur.stage = .len0 ∧ l = BitVec.ofNat 16 b.toNat) ∨
    (s.cur.stage = .len1 ∧ ∃ hi : Byte, s.cur.held = [hi] ∧ l = BitVec.ofNat 16 (hi.toNat * 256 + b.toNat))

theorem State.PrefixIs.inLen {s : State} {b : Byte} {l : Word16} (h : s.PrefixIs b l) : s.cur.stage.inLen = true := by
  obtain ⟨_, hstage, _⟩ | ⟨hstage, _⟩ := h <;> rw [hstage] <;> rfl

theorem State.PrefixIs.readLen {s : State} {b : Byte} {l : Word16} (h : s.PrefixIs b l) (k : State → State) :
    s.readLen b k = k { s with cur := { s.cur with len := l } } := by
  obtain ⟨hmode, hstage, rfl⟩ | ⟨hstage, hi, hheld, rfl⟩ := h
  · exact State.readLen_last k (.inl ⟨hmode, hstage, BitVec.ofNat_toNat ..⟩)
  · exact State.readLen_last k (.inr ⟨hstage, by rw [hheld]; exact (join16_eq_ofNat hi b).symm⟩)

/-- Settles O42: every rule begins with LEN, whose first byte is held in LONG mode. -/
theorem longPrefixFirstByte : Obligations.LongPrefixFirstByte := by
  intro s b r hf hx hr ht hmode hstage
  obtain ⟨f, hrule⟩ := RecvDesc.rule_of_tag ht
  have hin : (s.readIn b).cur.stage.inLen = true := congrArg Stage.inLen hstage
  have hread : ∃ k, f b (s.readIn b) = (s.readIn b).readLen b k := by
    cases r <;> cases hrule <;> exact ⟨_, if_pos hin⟩
  obtain ⟨k, hread⟩ := hread
  rw [exec_readIn hf hx hr hrule, hread, State.readLen_first (s := s.readIn b) k hmode hstage]
  rfl

/-! ### Scalars -/

theorem recvScalar_prefix {s : State} {b : Byte} {l : Word16} (h : s.PrefixIs b l) (n : Nat) (asm : List Byte → Leaf) :
    recvScalar n asm b s =
      if l.toNat ≠ n then { s with err := some .malformedLength, fsm := .rel, cur := { s.cur with len := l } }
      else { s with cur := { s.cur with stage := .payload, i := 0, len := l, held := [] } } := by
  rw [recvScalar, if_pos h.inLen, h.readLen]
  rfl

theorem RecvDesc.rule_of_width {r : RecvDesc} {n : Nat} (h : r.width = some n) : ∃ asm, r.rule = some (recvScalar n asm) := by
  cases r <;> cases h <;> exact ⟨_, rfl⟩

/-- What the byte that completes a scalar's prefix does, for a scalar of any width. -/
theorem exec_scalarPrefix {s : State} {b : Byte} {l : Word16} (hf : s.fsm = .rxParam) (hx : s.env.xchg = .ok b)
    (h : s.PrefixIs b l) {r : RecvDesc} {n : Nat} (hw : r.width = some n) (hr : s.curDesc = some r) :
    (l.toNat ≠ n → exec (decodeRecvTag r.tag) s = .next { s with
      err := some .malformedLength
      fsm := .rel
      cur := { s.consumed.cur with len := l }
      env := s.env.dropXchg
      log := s.log ++ [.xchg s.build.rxFill (.ok b)] }) ∧
    (l.toNat = n → exec (decodeRecvTag r.tag) s = .next { s with
      cur := { s.consumed.cur with stage := .payload, i := 0, len := l, held := [] }
      env := s.env.dropXchg
      log := s.log ++ [.xchg s.build.rxFill (.ok b)] }) := by
  obtain ⟨asm, hrule⟩ := RecvDesc.rule_of_width hw
  have h' : (s.readIn b).PrefixIs b l := h
  rw [exec_readIn hf hx hr hrule, recvScalar_prefix h']
  exact ⟨fun hl => congrArg _ (if_pos hl), fun hl => congrArg _ (if_neg (not_not.2 hl))⟩

/-- Settles O41: the five scalars have one rule, with the width as its parameter. -/
theorem scalarPrefix : Obligations.ScalarPrefix := by
  intro s b l hf hx h
  simp only [List.forall_mem_cons, List.not_mem_nil, false_implies, implies_true, and_true]
  have key {r : RecvDesc} {n : Nat} := exec_scalarPrefix hf hx h (r := r) (n := n)
  exact ⟨key rfl, key rfl, key rfl, key rfl, key rfl⟩

section
variable {s : State} {b : Byte} (asm : List Byte → Leaf)

theorem recvScalar_keeps {n : Nat} (hstage : s.cur.stage = .payload) (hlt : s.cur.i + 1 < n) :
    recvScalar n asm b s = { s with cur := { s.cur with i := s.cur.i + 1, held := s.cur.held ++ [b] } } := by
  rw [recvScalar, hstage]
  exact if_pos hlt

theorem recvScalar_ends {n : Nat} (hstage : s.cur.stage = .payload) (hn : s.cur.i + 1 = n) :
    recvScalar n asm b s = s.finishWith (asm (s.cur.held ++ [b])) := by
  rw [recvScalar, hstage]
  exact if_neg hn.not_lt

end

/-- A byte that ends its item with the value `v`: `v` is at the item's slot, the slots that are no prefixes of it are unchanged, and so is
all state but the cursor, the sequencer's state and `err`. -/
theorem ends_of_finishWith {s : State} {b : Byte} {o : Host.Outcome State Fault Refusal} {c : Cursor} {v : Leaf}
    (hp : c.p = s.cur.p) (hstack : c.stack = s.consumed.cur.stack)
    (ho : o = .next (State.finishWith { s.readIn b with cur := c } v)) :
    ∃ t, o = .next t ∧ t.dst.get s.curSlot = some v ∧ (∀ q : Slot, ¬ q <+: s.curSlot → t.dst.get q = s.dst.get q) ∧
      t = State.advance { s.consumed with
        cur := c
        dst := s.dst.set s.curSlot v
        env := s.env.dropXchg
        log := s.log ++ [.xchg s.build.rxFill (.ok b)] } s.consumed.cur.stack ∧
      t.log = s.log ++ [.xchg s.build.rxFill (.ok b)] ∧
      t = { s with fsm := t.fsm, cur := t.cur, dst := t.dst, err := t.err, env := s.env.dropXchg, log := t.log } := by
  have hslot : State.curSlot { s.readIn b with cur := c } = s.curSlot := by
    rw [← State.consumed_curSlot s, State.curSlot, State.curSlot, hp, hstack]
    rfl
  obtain ⟨hget, hother, hframe⟩ := State.finishWith_spec { s.readIn b with cur := c } v
  rw [hslot] at hget hother
  refine ⟨_, ho, hget, hother, ?_, by rw [hframe]; rfl, by rw [hframe]; rfl⟩
  rw [State.finishWith, State.finishItem, hslot, ← hstack]
  rfl

/-- The last payload byte of a scalar writes the value that its rule assembles. -/
theorem exec_scalarValue {s : State} {b : Byte} (hf : s.fsm = .rxParam) (hx : s.env.xchg = .ok b) (hstage : s.cur.stage = .payload)
    {r : RecvDesc} {n : Nat} {asm : List Byte → Leaf} {held : List Byte} {v : Leaf} (hrule : r.rule = some (recvScalar n asm))
    (hn : held.length + 1 = n) (hv : asm (held ++ [b]) = v) (hr : s.curDesc = some r) (hheld : s.cur.held = held)
    (hi : s.cur.i = held.length) :
    ∃ t, exec (decodeRecvTag r.tag) s = .next t ∧ t.dst.get s.curSlot = some v ∧
      (∀ q : Slot, ¬ q <+: s.curSlot → t.dst.get q = s.dst.get q) ∧
      t = State.advance { s.consumed with
        dst := s.dst.set s.curSlot v
        env := s.env.dropXchg
        log := s.log ++ [.xchg s.build.rxFill (.ok b)] } s.consumed.cur.stack ∧
      t.log = s.log ++ [.xchg s.build.rxFill (.ok b)] ∧
      t = { s with fsm := t.fsm, cur := t.cur, dst := t.dst, err := t.err, env := s.env.dropXchg, log := t.log } := by
  subst hheld
  refine ends_of_finishWith (c := (s.readIn b).cur) rfl rfl ?_
  rw [exec_readIn hf hx hr hrule, recvScalar_ends (s := s.readIn b) asm hstage (hi ▸ hn), ← hv]
  rfl

/-- Settles O43: the last byte is the one that completes the width; the bytes before it are held. -/
theorem scalarValue : Obligations.ScalarValue := by
  refine ⟨fun s b hf hx hstage => ?held, fun s b b0 b1 b2 hf hx hstage => ?last⟩
  case held =>
    have key {r : RecvDesc} {n : Nat} {asm : List Byte → Leaf} (hrule : r.rule = some (recvScalar n asm)) (hr : s.curDesc = some r)
        (hlt : s.cur.i + 1 < n) : exec (decodeRecvTag r.tag) s = .next { s with
          cur := { s.consumed.cur with i := s.cur.i + 1, held := s.cur.held ++ [b] }
          env := s.env.dropXchg
          log := s.log ++ [.xchg s.build.rxFill (.ok b)] } :=
      (exec_readIn hf hx hr hrule).trans (congrArg _ (recvScalar_keeps (s := s.readIn b) asm hstage hlt))
    simp only [List.forall_mem_cons, List.not_mem_nil, false_implies, implies_true, and_true]
    exact ⟨key rfl, key rfl, key rfl, key rfl⟩
  case last =>
    have key {r : RecvDesc} {n : Nat} {asm : List Byte → Leaf} {held : List Byte} {v : Leaf} :=
      exec_scalarValue hf hx hstage (r := r) (n := n) (asm := asm) (held := held) (v := v)
    simp only [List.forall_mem_cons, List.not_mem_nil, false_implies, implies_true, and_true]
    exact ⟨key rfl rfl rfl, key rfl rfl (congrArg Leaf.u16 (join16_eq_ofNat b0 b)),
      key rfl rfl (congrArg Leaf.u16 (join16_eq_ofNat b b0)), key rfl rfl (congrArg Leaf.u32 (join32_eq_ofNat b0 b1 b2 b)),
      key rfl rfl (congrArg Leaf.u32 (join32_eq_ofNat b b2 b1 b0))⟩

end Sys2Proof.Machine
end

section
/-! One byte of a span, of a null-terminated span, and the terminator fault (43_param_decode.md R177, R178; 60_exceptions.md R217). -/

namespace Sys2Proof.Machine

open Sys2Proof.Config

/-! ### The prefix -/

section
variable {s : State} {b : Byte} {l : Word16}

theorem recvSpan_prefix (h : s.PrefixIs b l) (cap : Nat) :
    recvSpan cap b s =
      let t : State := { s with cur := { s.cur with len := l } }
      if cap < l.toNat then t.failPhase .capacityExceeded
      else if l.toNat = 0 then t.finishRlen 0
      else t.toStage .payload := by
  rw [recvSpan, if_pos h.inLen, h.readLen]

theorem recvNullterm_prefix (h : s.PrefixIs b l) (cap : Nat) :
    recvNullterm cap b s =
      let t : State := { s with cur := { s.cur with len := l } }
      if l.toNat = 0 then t.failPhase .malformedLength
      else if cap < l.toNat - 1 then t.failPhase .capacityExceeded
      else t.toStage .payload := by
  rw [recvNullterm, if_pos h.inLen, h.readLen]

end

/-- Settles O44: the checks of each rule, in their order. -/
theorem spanPrefix : Obligations.SpanPrefix := by
  intro s b l cap hf hx h
  have h' : (s.readIn b).PrefixIs b l := h
  have hspan (hr : s.curDesc = some (.span cap)) := (exec_readIn hf hx hr rfl).trans (congrArg _ (recvSpan_prefix h' cap))
  have hnull (hr : s.curDesc = some (.nullterm cap)) := (exec_readIn hf hx hr rfl).trans (congrArg _ (recvNullterm_prefix h' cap))
  refine ⟨fun hr hcap => ?_, fun hr hzero => ?_, fun hr hle hpos => ?_, fun hr hzero => ?_, fun hr hcap => ?_, fun hr hpos hle => ?_⟩
  · exact (hspan hr).trans (congrArg _ (if_pos hcap))
  · refine ends_of_finishWith (c := { s.consumed.cur with len := l }) (v := .bytes (s.dst.buffer s.curSlot) (some 0)) rfl rfl ?_
    refine (hspan hr).trans (congrArg _ ((if_neg (by omega)).trans ((if_pos hzero).trans ?_)))
    rw [State.finishRlen_eq, ← State.consumed_curSlot s]
    rfl
  · exact (hspan hr).trans (congrArg _ ((if_neg hle.not_gt).trans (if_neg hpos.ne')))
  · exact (hnull hr).trans (congrArg _ (if_pos hzero))
  · exact (hnull hr).trans (congrArg _ ((if_neg (by omega)).trans (if_pos (by omega))))
  · exact (hnull hr).trans (congrArg _ ((if_neg hpos.ne').trans (if_neg (by omega))))

/-! ### The payload -/

section
variable {s : State} (cap : Nat) (b : Byte)

theorem Stores.eq {f : Byte → State → State} (h : Stores f) (hstage : s.cur.stage = .payload)
    (hlt : s.cur.i + 1 < s.cur.len.toNat) :
    f b s = { s with
      dst := s.dst.memWrite s.curSlot s.cur.i b
      cur := { s.cur with i := s.cur.i + 1 } } := by
  have h := h s [] s.cur s.dst b hstage hlt
  rw [State.readBytes_nil] at h
  simpa [State.readBytes] using h

/-- The last byte of a span is stored, and RLEN is the prefix. -/
theorem recvSpan_ends (hstage : s.cur.stage = .payload) (hlast : s.cur.i + 1 = s.cur.len.toNat) :
    recvSpan cap b s = s.finishWith (.bytes ((s.dst.buffer s.curSlot).write s.cur.i b) (some s.cur.len.toNat)) := by
  have h := recvSpan_last (s := s) (bs := []) (d := s.dst) cap b hstage hlast
  rw [State.readBytes_nil] at h
  rw [h, State.finishRlen_eq, State.readBytes_dst, State.readBytes_curSlot (Cursor.moved_zero _), Dests.buffer_memWrite]
  simp [State.finishWith, State.readBytes, Dests.memWrite, Dests.set_set, State.curSlot]

theorem recvNullterm_ends (hstage : s.cur.stage = .payload) (hlast : s.cur.i + 1 = s.cur.len.toNat) :
    recvNullterm cap b s = if b ≠ NUL then s.takeFault b else s.finishRlen (s.cur.len.toNat - 1) := by
  rw [recvNullterm, hstage]
  exact if_neg hlast.not_lt

end

/-- What a data byte of a span does, for either kind. -/
theorem exec_spanByte {s : State} {b : Byte} (hf : s.fsm = .rxParam) (hx : s.env.xchg = .ok b) (hstage : s.cur.stage = .payload)
    (hlt : s.cur.i + 1 < s.cur.len.toNat) {r : RecvDesc} {f : Byte → State → State} (hrule : r.rule = some f) (hstores : Stores f)
    (hr : s.curDesc = some r) :
    ∃ t, exec (decodeRecvTag r.tag) s = .next t ∧
      (t.dst.buffer s.curSlot).read s.cur.i = some b ∧
      (∀ a, a ≠ s.cur.i → (t.dst.buffer s.curSlot).read a = (s.dst.buffer s.curSlot).read a) ∧
      (∀ q, q ≠ s.curSlot → t.dst.get q = s.dst.get q) ∧
      t = { s with
        cur := { s.consumed.cur with i := s.cur.i + 1 }
        dst := t.dst
        env := s.env.dropXchg
        log := s.log ++ [.xchg s.build.rxFill (.ok b)] } := by
  have hslot : (s.readIn b).curSlot = s.curSlot := State.consumed_curSlot _
  rw [exec_readIn hf hx hr hrule, hstores.eq (s := s.readIn b) b hstage hlt, hslot]
  refine ⟨_, rfl, ?_, fun a ha => ?_, fun q hq => Dests.get_memWrite_other _ _ _ hq, rfl⟩
  · show (Dests.buffer (s.dst.memWrite s.curSlot s.cur.i b) s.curSlot).read s.cur.i = some b
    rw [Dests.buffer_memWrite, Memory.read_write_same]
  · show (Dests.buffer (s.dst.memWrite s.curSlot s.cur.i b) s.curSlot).read a = _
    rw [Dests.buffer_memWrite, Memory.read_write_other _ _ ha]

/-- Settles O45: both kinds of span store a data byte alike. -/
theorem spanByteStored : Obligations.SpanByteStored := by
  intro s b cap hf hx hstage hlt
  simp only [List.forall_mem_cons, List.not_mem_nil, false_implies, implies_true, and_true]
  exact ⟨exec_spanByte hf hx hstage hlt rfl (recvSpan_stores cap), exec_spanByte hf hx hstage hlt rfl (recvNullterm_stores cap)⟩

/-- Settles O46: the byte that ends a span, and the NUL that ends a null-terminated one. -/
theorem spanEnds : Obligations.SpanEnds := by
  intro s b cap hf hx hstage hlast
  have hslot : (s.readIn b).curSlot = s.curSlot := State.consumed_curSlot _
  refine ⟨fun hr => ?span, fun hr hb => ?nullterm⟩
  case span =>
    have hexec := (exec_readIn hf hx hr rfl).trans (congrArg _ (recvSpan_ends (s := s.readIn b) cap b hstage hlast))
    rw [hslot] at hexec
    let buf := (s.dst.buffer s.curSlot).write s.cur.i b
    obtain ⟨t, ht, hget, hother, hadv, hlog, hframe⟩ :=
      ends_of_finishWith (s := s) (c := s.consumed.cur) (v := .bytes buf (some s.cur.len.toNat)) rfl rfl hexec
    exact ⟨t, buf, ht, hget, Memory.read_write_same .., fun a ha => Memory.read_write_other _ _ ha, hother, hadv, hlog, hframe⟩
  case nullterm =>
    have hexec := (exec_readIn hf hx hr rfl).trans (congrArg _
      ((recvNullterm_ends (s := s.readIn b) cap b hstage hlast).trans (if_neg (not_not.2 hb))))
    rw [State.finishRlen_eq, hslot] at hexec
    exact ends_of_finishWith (s := s) (c := s.consumed.cur) rfl rfl hexec

/-! ### The terminator fault -/

/-- STATUS as the fault leaves it: FAULT and DONE, CODE 8, ERRBYTE the byte (60_exceptions.md R217). -/
theorem toWord_faulted : ∀ b : Byte, Status.toWord ⟨false, true, true, .terminator, b⟩ = (b.zeroExtend 16 <<< 8) + 0x0086 := by
  decide

/-- A HALTED block makes no move of its own. -/
theorem State.BlockMove.not_halted {s t : State} (h : s.BlockMove t) : s.fsm ≠ .halted := by
  intro hf
  cases h with
  | wait h => obtain h | h := h <;> rw [hf] at h <;> nomatch h
  | handshake h | judge h => rw [hf] at h; nomatch h
  | send h | param h => rw [hf] at h; nomatch h

/-- Settles O47: the last byte of a null-terminated span is judged before RLEN is written; what the host does to a HALTED block is
at most a write of the stores or a read. -/
theorem terminatorFault : Obligations.TerminatorFault := by
  refine ⟨fun s b cap hf hx hstage hlast hr hb => ?fault,
    fun s hf => ⟨fun t h => ?stays, fun w rest hq hbusy => ?ignored, fun i hi => ?exec⟩⟩
  case fault =>
    have hexec := (exec_readIn hf hx hr rfl).trans (congrArg _
      ((recvNullterm_ends (s := s.readIn b) cap b hstage hlast).trans (if_pos hb)))
    refine ⟨_, hexec, rfl, rfl, rfl, rfl, rfl, ?_, rfl⟩
    rw [← toWord_faulted]
    exact List.append_assoc s.log [_] [_]
  case stays =>
    obtain ⟨rest, _, hmove⟩ | ⟨a, rest, _, hmove⟩ := step_cases h
    · exact absurd hf hmove.not_halted
    · cases hmove with
      | ignored | read | send | recv => exact ⟨hf, rfl, rfl, rfl, rfl⟩
      | issue hne => exact absurd hf hne
  case ignored =>
    have hstep : step s = writeReg .cmdw w { s with hostq := rest } := by simp only [step, stepOnce, hq]
    rw [hstep, writeReg_cmdw (by exact hbusy) (.inr (.inl (by exact hf))), exec_of_encode_cmdw (encode_decodeCmdw w)]
    exact issue_ignored _ _ _ (.inl hf)
  case exec => exact cmdwIgnored i s hi (.inl hf)

end Sys2Proof.Machine
end

section
/-! One byte of a sub-list, the end of an element, and the wire units inside a parameter (43_param_decode.md R179; 30_encoding.md R97). -/

namespace Sys2Proof.Machine

open Sys2Proof.Config

/-! ### The prefix and the count -/

/-- Settles O48: any outer prefix is taken. -/
theorem listPrefix : Obligations.ListPrefix := by
  intro s b l ecap ed hf hx hr h
  have h' : (s.readIn b).PrefixIs b l := h
  refine (exec_readIn hf hx hr rfl).trans (congrArg _ ?_)
  rw [recvList, if_pos h'.inLen, h'.readLen]
  rfl

section
variable {s : State} {b : Byte} {ecap : Nat}

theorem recvList_above (hstage : s.cur.stage = .count) (hcap : ecap < b.toNat) :
    recvList ecap b s = s.failPhase .capacityExceeded := by
  rw [recvList, hstage]
  exact if_pos hcap

/-- The element count begins the list's first element, or ends an empty list. -/
theorem recvList_within (hstage : s.cur.stage = .count) (hcap : b.toNat ≤ ecap) :
    recvList ecap b s = s.atElem (listFrame s.build.listForm s.cur.len.toNat b.toNat) s.cur.stack := by
  have h := recvList_count (s := s) (bs := []) (c := s.cur) (d := s.dst) (hstage ▸ rfl) hcap
  rwa [State.readBytes_nil] at h

/-- An empty list ends with RCNT 0. -/
theorem atElem_empty {f : Frame} (hj : f.j = 0) (hk : f.k = 0) (hm : f.mismatch = false) :
    s.atElem f s.cur.stack = s.finishWith (.count 0) := by
  rw [State.atElem, hj, hk, if_neg (lt_irrefl 0), hm, if_neg Bool.false_ne_true]
  rfl

end

theorem openItem_of_desc {s : State} {p : Nat} {stack : List Frame} {r : RecvDesc} (h : slotDesc s.rp p stack.length = some r) :
    s.openItem p stack = { s with
      fsm := .rxParam
      cur := { s.cur with p := p, stack := stack, i := 0, stage := openStage s.build.listForm (some r), held := [] } } := by
  rw [State.openItem, h]

theorem listFrame_eq (lf : ListForm) (len k : Nat) :
    listFrame lf len k = ⟨0, k, if lf = .prefixed then some len else none, 1⟩ := by
  cases lf <;> rfl

/-- Under PREFIXED an empty list's outer prefix must be the count byte alone. -/
theorem listFrame_mismatch (lf : ListForm) (len : Word16) (k : Nat) :
    (listFrame lf len.toNat k).mismatch = true ↔ lf = .prefixed ∧ len ≠ 1 := by
  cases lf with
  | countOnly => simp [listFrame, Frame.mismatch]
  | prefixed =>
    have h : (1 : Nat) = len.toNat ↔ len = 1 := ⟨fun h => BitVec.eq_of_toNat_eq h.symm, fun h => h ▸ rfl⟩
    simp [listFrame, Frame.mismatch, h]

/-- Settles O49: the capacity check, and then the list goes on with its first element, or ends. -/
theorem listCount : Obligations.ListCount := by
  intro s b ecap ed hf hx hstage hr
  have hexec := exec_readIn hf hx hr rfl
  have hslot : (s.readIn b).curSlot = s.curSlot := State.consumed_curSlot _
  have hwithin (hle : b.toNat ≤ ecap) := hexec.trans (congrArg _ (recvList_within (s := s.readIn b) hstage hle))
  refine ⟨fun hcap => ?above, fun hle hpos => ?element, fun hzero hlen => ?empty, fun hzero hform hlen => ?mismatch⟩
  case above => exact hexec.trans (congrArg _ (recvList_above (s := s.readIn b) hstage hcap))
  case element =>
    have hdesc : slotDesc s.rp s.cur.p (s.consumed.cur.stack.length + 1) = some ed :=
      slotDesc_succ ((State.consumed_curDesc s).trans hr)
    refine ⟨_, (hwithin hle).trans (congrArg _ (State.atElem_of_lt _ _ hpos)), hdesc, ?_, ?_⟩
    · show slotOf s.cur.p (_ :: s.consumed.cur.stack) = _
      rw [slotOf_cons, ← State.consumed_curSlot s]
      rfl
    · rw [openItem_of_desc (by exact hdesc), listFrame_eq, ← hf]
      rfl
  case empty =>
    have hm : (listFrame s.build.listForm s.cur.len.toNat b.toNat).mismatch = false := by
      rw [Bool.eq_false_iff, ne_eq, listFrame_mismatch]
      rintro ⟨hform, hne⟩
      obtain hlen | hlen := hlen
      · rw [hform] at hlen
        nomatch hlen
      · exact hne hlen
    refine ends_of_finishWith (s := s) (c := s.consumed.cur) rfl rfl ?_
    exact (hwithin (hzero ▸ Nat.zero_le _)).trans (congrArg _ (atElem_empty (s := s.readIn b) rfl hzero hm))
  case mismatch =>
    have hm : (listFrame s.build.listForm s.cur.len.toNat b.toNat).mismatch = true := (listFrame_mismatch ..).2 ⟨hform, hlen⟩
    refine (hwithin (hzero ▸ Nat.zero_le _)).trans (congrArg _ ?_)
    exact (if_neg (by rw [show _ = 0 from hzero]; exact lt_irrefl 0)).trans (if_pos hm)

/-! ### The end of an element -/

theorem Frame.mismatch_eq_true {f : Frame} {t : Nat} (he : f.expect = some t) (hne : f.consumed ≠ t) : f.mismatch = true := by
  rw [Frame.mismatch, he]
  exact bne_iff_ne.2 hne

theorem Frame.mismatch_eq_false {f : Frame} (h : f.expect = none ∨ f.expect = some f.consumed) : f.mismatch = false := by
  obtain h | h := h <;> rw [Frame.mismatch, h]
  exact bne_self_eq_false _

theorem State.openTop_curSlot {s : State} {p : Nat} (h : p < s.rp.length) : (s.openTop p).curSlot = [p] := by
  rw [State.openTop, if_pos h]
  rfl

/-- Settles O50: one branch of the advance after another. -/
theorem listAdvances : Obligations.ListAdvances := by
  intro s f rest
  refine ⟨fun hlt => ?next, fun t hlt he hne => ?mismatch, fun hlt h => ?outwards, fun hlt => ⟨?param, State.openTop_curSlot hlt⟩,
    fun hle => ?endCheck, ?same⟩
  case next =>
    rw [State.advance, if_pos hlt]
    exact ⟨slotOf_cons .., rfl, rfl⟩
  case mismatch =>
    rw [State.advance, if_neg hlt, if_pos (Frame.mismatch_eq_true he hne)]
    rfl
  case outwards => rw [State.advance, if_neg hlt, Frame.mismatch_eq_false h, if_neg Bool.false_ne_true]
  case param => rw [State.advance, State.openTop_fsm, if_pos hlt]
  case endCheck => rw [State.advance, State.openTop_fsm, if_neg hle.not_gt]
  case same => rw [State.advance, State.openTop_frame]

/-! ### Units -/

/-- Settles O51: inside a parameter the descriptor alone decides how a byte is read (43_param_decode.md R170). -/
theorem unitsReceived : Obligations.UnitsReceived := by
  intro s b r hf hr ht hx
  obtain ⟨f, hrule⟩ := RecvDesc.rule_of_tag ht
  have hreceive (mn : String) : receive b mn s = .next (f b (s.readIn b)) := by
    rw [receive_param (mn' := mn) hf ⟨r, hr, ht⟩, paramByte, State.consumed_curDesc, State.exchanged_curDesc, hr]
    cases r <;> cases hrule <;> rfl
  have htx : s.fsm ≠ .tx := by simp [hf]
  have hunit (mn : String) : wireUnit b mn s = .next (f b (s.readIn b)) := (wireUnit_rx htx).trans (hreceive mn)
  refine ⟨_, exec_readIn hf hx hr hrule, hunit _, hunit _, ?nul, fun lo hmode hstage => ?first, fun hi hmode hstage hheld => ?second⟩
  case nul =>
    rintro rfl
    exact hunit _
  case first =>
    show execWireLenLong (b ++ lo) s = _
    simp only [execWireLenLong, append_high, hf, hmode, hstage, reduceCtorEq, if_false, and_self, if_true, hreceive]
  case second =>
    show execWireLenLong (hi ++ b) s = _
    simp only [execWireLenLong, append_high, append_low, hf, hmode, hstage, hheld, reduceCtorEq, and_false, if_false, and_self,
      if_true, hreceive]

end Sys2Proof.Machine
end

section
/-! The request phase of an EXECUTE, from its acquire to its Release (44_transaction.md R190). -/

namespace Sys2Proof.Machine

open Sys2Proof.Config

/-! ### The request phase -/

section
variable {s : State} {ready : List ReadyDraw} {writes : List WriteDraw}

/-- A peer that is ready at a sample of the acquire. -/
theorem step_acqR_ready (hq : s.hostq = []) (hf : s.fsm = .acqR) (hr : s.env.readyIn = .ok true :: ready) :
    step s = .next { s with env := { s.env with readyIn := ready }, log := s.log ++ [.ready (.ok true)], fsm := .acqSel } := by
  obtain ⟨hdraw, hdrop⟩ := Env.ready_cons hr
  obtain ⟨-, hready, -⟩ := acquireSteps s hq
  rw [hready true hdraw hf, hdrop]
  rfl

theorem step_acqSel_request (hq : s.hostq = []) (hf : s.fsm = .acqSel) (hph : s.ph = .req) (hw : s.env.writeIn = .ok :: writes) :
    step s = .next { s with env := { s.env with writeIn := writes }, log := s.log ++ [.write .selectN false none],
                            selectN := false, txn := 0, txIdx := 0, fsm := .tx } := by
  obtain ⟨hdraw, hdrop⟩ := Env.write_cons hw
  obtain ⟨-, -, -, hrequest, -⟩ := acquireSteps s hq
  rw [hrequest hdraw hf hph, hdrop]

theorem step_acqSel_reply (hq : s.hostq = []) (hf : s.fsm = .acqSel) (hph : s.ph = .rep) (hpos : 0 < s.build.scanCeiling)
    (hw : s.env.writeIn = .ok :: writes) :
    step s = .next { s with env := { s.env with writeIn := writes }, log := s.log ++ [.write .selectN false none],
                            selectN := false, scnt := 0, fsm := .rxScan } := by
  obtain ⟨hdraw, hdrop⟩ := Env.write_cons hw
  obtain ⟨-, -, -, -, hreply, -⟩ := acquireSteps s hq
  rw [hreply hdraw hf hph hpos, hdrop]

/-- The Release of the request phase, for a build without WAIT_NOT_READY. -/
theorem step_rel_request (hq : s.hostq = []) (hf : s.fsm = .rel) (hph : s.ph = .req) (herr : s.err = none)
    (hwait : s.build.wv.waitNotReady = false) (hw : s.env.writeIn = .ok :: writes) :
    step s = .next { s with env := { s.env with writeIn := writes }, log := s.log ++ [.write .selectN true none],
                            selectN := true, ph := .rep, fsm := .acqR } := by
  obtain ⟨hdraw, hdrop⟩ := Env.write_cons hw
  obtain ⟨hrequest, -⟩ := phaseEnds s hq hf hdraw herr
  rw [hrequest hph, hdrop, hwait]
  rfl

end

/-- The request frame goes out, whatever the peer answers (41_frame_codec.md R133). -/
theorem run_sends {s : State} {rs : List Byte} {xs : List XchgDraw} {n : Nat} (hn : n = s.requestBytes.length)
    (hq : s.hostq = []) (hf : s.fsm = .tx) (hidx : s.txIdx = 0) (htxn : s.txn = 0) (hlen : rs.length = s.requestBytes.length)
    (hx : s.env.xchgIn = rs.map .ok ++ xs) :
    Sys2Proof.core.run n s = .next { s with
      txn := BitVec.ofNat 2 s.requestBytes.length
      txIdx := s.requestBytes.length
      env := { s.env with xchgIn := xs }
      fsm := .rel
      log := s.log ++ s.requestBytes.zipWith (fun b r => .xchg b (.ok r)) rs } :=
  hn ▸ requestSent.2 s rs xs hq hf hidx htxn hlen hx

/-- The state that a request phase leaves: `rs` is what the peer answered, and the draws that are left are given (44_transaction.md R190). -/
def State.requested (s : State) (rs : List Byte) (ready : List ReadyDraw) (writes : List WriteDraw) (xs : List XchgDraw) : State :=
  { s with
    env := { s.env with readyIn := ready, writeIn := writes, xchgIn := xs }
    log := s.log ++ [.ready (.ok true), .write .selectN false none] ++
      s.requestBytes.zipWith (fun b r => .xchg b (.ok r)) rs ++ [.write .selectN true none]
    selectN := true
    ph := .rep
    txn := BitVec.ofNat 2 s.requestBytes.length
    txIdx := s.requestBytes.length
    fsm := .acqR }

/-- The request phase from its acquire to its Release. -/
theorem run_request {s : State} {rs : List Byte} {xs : List XchgDraw} {ready : List ReadyDraw} {writes : List WriteDraw}
    (hq : s.hostq = []) (hf : s.fsm = .acqR) (hph : s.ph = .req) (herr : s.err = none) (hwait : s.build.wv.waitNotReady = false)
    (hlen : rs.length = s.requestBytes.length) (hr : s.env.readyIn = .ok true :: ready)
    (hw : s.env.writeIn = .ok :: .ok :: writes) (hx : s.env.xchgIn = rs.map .ok ++ xs) :
    Sys2Proof.core.run (3 + s.requestBytes.length) s = .next (s.requested rs ready writes xs) := by
  have hsum : 3 + s.requestBytes.length = s.requestBytes.length + 1 + 1 + 1 := by omega
  rw [hsum, State.requested, List.append_cons s.log (.ready (.ok true)) [.write .selectN false none]]
  refine (run_next _ (step_acqR_ready hq hf hr)).trans ?_
  refine (run_next _ (step_acqSel_request (by exact hq) (by rfl) (by exact hph) (by exact hw))).trans ?_
  refine (run_add (run_sends (by rfl) (by exact hq) (by rfl) (by rfl) (by rfl) (by exact hlen) (by exact hx))).trans ?_
  exact run_next 0 (step_rel_request (by exact hq) (by rfl) (by exact hph) (by exact herr) (by exact hwait) (by rfl))

end Sys2Proof.Machine
end

section
/-! The reply of a whole EXECUTE, byte by byte (41_frame_codec.md R134 to R139, 43_param_decode.md R182). -/

namespace Sys2Proof.Machine

open Sys2Proof.Config

/-! ### Bytes outside the parameters -/

theorem run_append {s t u : State} {a b : List Byte} (ha : Sys2Proof.core.run a.length s = .next t)
    (hb : Sys2Proof.core.run b.length t = .next u) : Sys2Proof.core.run (a ++ b).length s = .next u := by
  rw [List.length_append, run_add ha, hb]

/-- A byte that comes outside the parameters is read, and judged by the block's position. -/
theorem State.Feeds.run_judge {s : State} {f : State → Byte → State} {b : Byte} (hx : s.Feeds [b]) (hq : s.hostq = [])
    (hf : s.fsm.judge = some f) : Sys2Proof.core.run [b].length s = .next (f (s.readBytes [b] s.cur s.dst) b) := by
  obtain ⟨more, hx⟩ := hx
  refine (run_next 0 (step_judge hq hf hx.symm)).trans ?_
  simp [run_zero, State.readBytes, ← hx]

/-- Opening a parameter sets the sequencer's state. -/
theorem State.openTop_of_fsm (s : State) (f : Fsm) (p : Nat) : State.openTop { s with fsm := f } p = s.openTop p := by
  rw [State.openTop, State.openTop]
  split <;> rfl

/-- The END check follows the last parameter (41_frame_codec.md R134). -/
theorem State.openTop_end {s : State} {p : Nat} (h : s.rp.length ≤ p) :
    s.openTop p = { s with fsm := .rxEnd, cur := { s.cur with p := p, stack := [], i := 0, stage := .len0, held := [] } } :=
  if_neg h.not_gt

/-- The bytes of the reply between START and its first parameter. -/
def State.replyHead (s : State) : List Byte :=
  [s.cmdReply] ++ if s.build.wv.countByte then [BitVec.ofNat 8 s.rp.length] else []

/-- The command and count checks, for the bytes expected, open the first parameter (41_frame_codec.md R137, R138). -/
theorem State.run_replyHead {s : State} (hq : s.hostq = []) (hf : s.fsm = .rxCmd) (hnr : s.rp.length ≤ 255)
    (hx : s.Feeds s.replyHead) :
    Sys2Proof.core.run s.replyHead.length s = .next ((s.readBytes s.replyHead s.cur s.dst).openTop 0) := by
  have hcmd := (State.Feeds.left (a := [s.cmdReply]) hx).run_judge hq (f := State.checkCmd) (by rw [hf]; rfl)
  rw [State.checkCmd_reply (by rfl), State.readBytes_build] at hcmd
  rw [State.replyHead] at hx ⊢
  cases hc : s.build.wv.countByte with
  | false =>
    rw [hc] at hx hcmd
    exact hcmd
  | true =>
    rw [hc] at hx hcmd
    have hn : (BitVec.ofNat 8 s.rp.length).toNat = s.rp.length := Nat.mod_eq_of_lt (Nat.lt_succ_of_le hnr)
    have hcount := State.Feeds.run_judge (s := (s.readBytes [s.cmdReply] s.cur s.dst).goto .rxCount)
      (State.Feeds.right (c := s.cur) (d := s.dst) hx) hq (f := State.checkCount) rfl
    have hopen (t : State) (ht : t.rp = s.rp) : t.checkCount (BitVec.ofNat 8 s.rp.length) = t.openTop 0 :=
      if_neg (not_not.2 (hn.trans (congrArg List.length ht.symm)))
    rw [hopen _ (by rfl)] at hcount
    refine run_append hcmd (hcount.trans (congrArg _ ?_))
    rw [← State.readBytes_readBytes _ _ _ s.cur _ s.dst]
    exact State.openTop_of_fsm ((s.readBytes [s.cmdReply] s.cur s.dst).readBytes _ s.cur s.dst) .rxCount 0

/-! ### The parameters -/

section
variable {lf : ListForm} {m : Mode}

/-- A parameter is decoded, and the next one opened, or the END check. -/
theorem State.run_param {s : State} {d : SendDesc} {r : RecvDesc} {p : Nat} (hq : s.hostq = []) (hlf : s.build.listForm = lf)
    (hm : s.cl.rmode = m) (hr : s.rp[p]? = some r) (hvalid : d.valid lf m = true) (hfit : d.fitsIn r = true)
    (hfresh : s.dst.Fresh [p]) (hx : s.Feeds (d.bytes lf m)) :
    ∃ c, Sys2Proof.core.run (d.bytes lf m).length (s.openTop p) =
      .next ((s.readBytes (d.bytes lf m) c (d.stored [p] s.dst)).openTop (p + 1)) := by
  have hdesc : slotDesc s.rp p 0 = some r := by rw [slotDesc, hr]; rfl
  have hopen : s.openTop p = s.openItem p [] := if_pos (List.getElem?_eq_some_iff.1 hr).1
  have hat : (s.openItem p []).At lf m r (openStage lf (some r)) :=
    State.InParam.openItem (s := { s with fsm := .rxParam }) ⟨hq, rfl, hlf, hm⟩ hdesc
  obtain ⟨c, hp, hrun⟩ := SendDesc.decodes hat hvalid hfit hfresh hx
  refine ⟨c, ?_⟩
  rw [hopen, hrun]
  have hadv (t : State) (ht : t.cur.p = p) : t.advance [] = t.openTop (p + 1) := by rw [State.advance, ht]
  exact congrArg _ ((hadv _ hp).trans (State.openTop_of_fsm (s.readBytes _ c _) .rxParam _))

/-- The bytes of the values of all parameters from `p` on leave the values at their parameters' slots. -/
theorem State.run_params : ∀ {vals : List SendDesc} {p : Nat} {s : State}, s.hostq = [] → s.build.listForm = lf → s.cl.rmode = m →
    List.Forall₂ (fun (d : SendDesc) r => d.valid lf m = true ∧ d.fitsIn r = true) vals (s.rp.drop p) →
    (∀ q, p ≤ q → s.dst.Fresh [q]) → s.Feeds (vals.flatMap (SendDesc.bytes lf m)) →
    ∃ c, Sys2Proof.core.run (vals.flatMap (SendDesc.bytes lf m)).length (s.openTop p) =
      .next ((s.readBytes (vals.flatMap (SendDesc.bytes lf m)) c (storedParams p s.dst vals)).openTop (p + vals.length))
  | [], p, s, _, _, _, _, _, _ => ⟨s.cur, by
      rw [List.flatMap_nil, storedParams, State.readBytes_nil]
      rfl⟩
  | d :: vals, p, s, hq, hlf, hm, hvals, hfresh, hx => by
    obtain ⟨r, rest, ⟨hvalid, hfit⟩, hvals, hdrop⟩ := List.forall₂_cons_left_iff.1 hvals
    have hr : s.rp[p]? = some r := by
      have h := congrArg (fun l => l[0]?) hdrop
      simpa using h
    have hrest : s.rp.drop (p + 1) = rest := by rw [← List.tail_drop, hdrop, List.tail_cons]
    rw [List.flatMap_cons] at hx ⊢
    obtain ⟨c, hrun⟩ := State.run_param hq hlf hm hr hvalid hfit (hfresh p le_rfl) hx.left
    obtain ⟨c', hrun'⟩ := State.run_params (p := p + 1) (s := s.readBytes (d.bytes lf m) c (d.stored [p] s.dst)) hq hlf hm
      (by rwa [State.readBytes_rp, hrest])
      (fun q hpq => Dests.Fresh.stored (slot := []) (hfresh q (Nat.le_of_succ_le hpq)) d (Nat.ne_of_gt hpq)) hx.right
    refine ⟨c', (run_append hrun hrun').trans (congrArg _ ?_)⟩
    rw [State.readBytes_readBytes, List.length_cons, Nat.succ_add_eq_add_succ]
    rfl

end

/-! ### The whole reply -/

/-- END after the last parameter leads to the Release (41_frame_codec.md R139). -/
theorem State.run_replyEnd {s : State} {p : Nat} (hq : s.hostq = []) (hp : s.rp.length ≤ p) (hx : s.Feeds [END]) :
    ∃ c, Sys2Proof.core.run [END].length (s.openTop p) = .next { s.readBytes [END] c s.dst with fsm := .rel } := by
  rw [State.openTop_end hp]
  exact ⟨_, State.Feeds.run_judge (by exact hx) (by exact hq) (f := State.checkEnd) (by rfl)⟩

/-- A reply that holds the values, from START to END. -/
def State.replyBytes (s : State) (vals : List SendDesc) : List Byte :=
  [START] ++ (s.replyHead ++ (vals.flatMap (SendDesc.bytes s.build.listForm s.cl.rmode) ++ [END]))

/-- A well-formed reply is read whole, and leaves its values; Release comes next. -/
theorem State.run_replyBytes {s : State} {vals : List SendDesc} (hq : s.hostq = []) (hf : s.fsm = .rxScan) (hnr : s.rp.length ≤ 255)
    (hvals : List.Forall₂ (fun (d : SendDesc) r => d.valid s.build.listForm s.cl.rmode = true ∧ d.fitsIn r = true) vals s.rp)
    (hfresh : ∀ q, s.dst.Fresh [q]) (hx : s.Feeds (s.replyBytes vals)) :
    ∃ c, Sys2Proof.core.run (s.replyBytes vals).length s = .next
      { s.readBytes (s.replyBytes vals) c (storedParams 0 s.dst vals) with scnt := s.scnt + 1, fsm := .rel } := by
  have hstart := hx.left.run_judge hq (f := State.scanByte) (by rw [hf]; rfl)
  rw [State.scanByte_start] at hstart
  let u1 : State := (s.readBytes [START] s.cur s.dst).scanFound
  have hx1 : u1.Feeds _ := hx.right (c := s.cur) (d := s.dst)
  have hhead := State.run_replyHead (s := u1) hq rfl hnr hx1.left
  let u2 : State := u1.readBytes s.replyHead s.cur s.dst
  have hx2 : u2.Feeds _ := hx1.right
  obtain ⟨c, hparams⟩ := State.run_params (p := 0) (s := u2) hq rfl rfl hvals (fun q _ => hfresh q) hx2.left
  obtain ⟨c', hend⟩ := State.run_replyEnd (p := 0 + vals.length) (by exact hq) (by rw [Nat.zero_add]; exact hvals.length_eq.ge)
    (hx2.right (c := c) (d := storedParams 0 s.dst vals))
  refine ⟨c', (run_append hstart (run_append hhead (run_append hparams hend))).trans (congrArg _ ?_)⟩
  rw [State.replyBytes, ← State.readBytes_readBytes s [START] _ s.cur _ s.dst,
    ← State.readBytes_readBytes _ s.replyHead _ s.cur _ s.dst, ← State.readBytes_readBytes _ _ [END] c _ (storedParams 0 s.dst vals)]
  rfl

end Sys2Proof.Machine
end

section
/-! A whole EXECUTE, from the CMDW write to its completion with OK (44_transaction.md R190, R192). -/

namespace Sys2Proof.Machine

open Sys2Proof.Config

/-- The Release of the reply phase completes the operation with OK (44_transaction.md R190). -/
theorem step_rel_reply {s : State} {writes : List WriteDraw} (hq : s.hostq = []) (hf : s.fsm = .rel) (hph : s.ph = .rep)
    (herr : s.err = none) (hw : s.env.writeIn = .ok :: writes) :
    ∃ st, st = { s.status with busy := false, done := true, code := .ok, errByte := 0 } ∧
      step s = .next { s with
        selectN := true
        status := st
        terr := terrDraw s.env.drawn
        env := { s.env with writeIn := writes, drawn := s.env.drawn + 1 }
        fsm := .done
        log := s.log ++ [.write .selectN true none, .complete st.toWord] } := by
  obtain ⟨hdraw, hdrop⟩ := Env.write_cons hw
  obtain ⟨-, hreply⟩ := phaseEnds s hq hf hdraw herr
  obtain ⟨st, hst, hstep⟩ := hreply hph
  exact ⟨st, hst, by rw [hstep, hdrop]⟩

/-- The bytes read leave the exchanges after them. -/
theorem State.readBytes_of_xchg {s : State} {bs : List Byte} {xs : List XchgDraw} (hx : s.env.xchgIn = bs.map .ok ++ xs) (c : Cursor)
    (d : Dests) : s.readBytes bs c d = { s with
      cur := c
      dst := d
      env := { s.env with xchgIn := xs }
      log := s.log ++ bs.map fun b => .xchg s.build.rxFill (.ok b) } := by
  simp [State.readBytes, hx]

/-- The state in which a reply phase begins its scan (40_handshake.md R113). -/
def State.scanning (s : State) (ready : List ReadyDraw) (writes : List WriteDraw) : State :=
  { s with
    env := { s.env with readyIn := ready, writeIn := writes }
    log := s.log ++ [.ready (.ok true)] ++ [.write .selectN false none]
    selectN := false
    scnt := 0
    fsm := .rxScan }

/-- The reply phase from its acquire to the completion. -/
theorem run_reply {s : State} {vals : List SendDesc} {xs : List XchgDraw} {ready : List ReadyDraw} {writes : List WriteDraw}
    (hq : s.hostq = []) (hf : s.fsm = .acqR) (hph : s.ph = .rep) (herr : s.err = none) (hpos : 0 < s.build.scanCeiling)
    (hnr : s.rp.length ≤ 255)
    (hvals : List.Forall₂ (fun (d : SendDesc) r => d.valid s.build.listForm s.cl.rmode = true ∧ d.fitsIn r = true) vals s.rp)
    (hfresh : ∀ q, s.dst.Fresh [q]) (hr : s.env.readyIn = .ok true :: ready) (hw : s.env.writeIn = .ok :: .ok :: writes)
    (hx : s.env.xchgIn = (s.replyBytes vals).map .ok ++ xs) :
    ∃ c st, st = { s.status with busy := false, done := true, code := .ok, errByte := 0 } ∧
      Sys2Proof.core.run (3 + (s.replyBytes vals).length) s = .next { s with
        selectN := true
        scnt := 1
        cur := c
        dst := storedParams 0 s.dst vals
        status := st
        terr := terrDraw s.env.drawn
        env := { s.env with readyIn := ready, writeIn := writes, xchgIn := xs, drawn := s.env.drawn + 1 }
        fsm := .done
        log := s.log ++ [.ready (.ok true), .write .selectN false none] ++
          (s.replyBytes vals).map (fun b => .xchg s.build.rxFill (.ok b)) ++ [.write .selectN true none, .complete st.toWord] } := by
  let u := s.scanning ready (.ok :: writes)
  have hxu : u.env.xchgIn = (u.replyBytes vals).map .ok ++ xs := hx
  obtain ⟨c, hread⟩ := State.run_replyBytes (s := u) hq rfl hnr hvals hfresh ⟨xs, hxu.symm⟩
  rw [State.readBytes_of_xchg hxu] at hread
  obtain ⟨st, hst, hrel⟩ := step_rel_reply (s := { u with
    cur := c
    dst := storedParams 0 s.dst vals
    env := { u.env with xchgIn := xs }
    log := u.log ++ (s.replyBytes vals).map (fun b => .xchg s.build.rxFill (.ok b))
    scnt := 1
    fsm := .rel }) hq rfl hph herr rfl
  refine ⟨c, st, hst, ?_⟩
  have hsum : 3 + (s.replyBytes vals).length = (s.replyBytes vals).length + 1 + 1 + 1 := by omega
  rw [hsum, List.append_cons s.log (.ready (.ok true)) [.write .selectN false none]]
  refine (run_next _ (step_acqR_ready hq hf hr)).trans ?_
  refine (run_next _ (step_acqSel_reply (by exact hq) (by rfl) (by exact hph) (by exact hpos) (by exact hw))).trans ?_
  exact (run_add hread).trans (run_next 0 hrel)

/-- The state in which the request phase of an EXECUTE begins, for a build without WAIT_NOT_READY (44_transaction.md R190, R198). -/
def State.executing (s : State) (rb : BitVec 1) (cmd : BitVec 7) (rm sm : Mode) : State :=
  { s with
    hostq := []
    status := { s.status with busy := true, done := false }
    cl := ⟨0x2, sm, rm, cmd⟩
    ph := .req
    dst := []
    dstUnspec := false
    err := none
    fsm := .acqR
    log := s.log ++ [.issue (cmdwWord rb cmd 0 rm sm 0x2)] }

/-- A write of CMDW with a valid EXECUTE, for a build without WAIT_NOT_READY. -/
theorem step_execute {s : State} {rb : BitVec 1} {cmd : BitVec 7} {rm sm : Mode}
    (hq : s.hostq = [.writeReg .cmdw (cmdwWord rb cmd 0 rm sm 0x2)]) (hf : s.fsm ≠ .halted) (hbusy : s.status.busy = false)
    (hsp : s.spWritten = true) (hrp : s.rpWritten = true) (hwait : s.build.wv.waitNotReady = false)
    (hsend : ∀ d ∈ s.sp, d.valid s.build.listForm sm = true) (hrecv : ∀ r ∈ s.rp, r.valid = true) :
    step s = .next (s.executing rb cmd rm sm) := by
  have hstep : step s = writeReg .cmdw (cmdwWord rb cmd 0 rm sm 0x2) { s with hostq := [] } := by simp only [step, stepOnce, hq]
  have hdec : decodeCmdw (cmdwWord rb cmd 0 rm sm 0x2) = .execute rb cmd rm sm := decodeCmdw_of_encode rfl rfl
  obtain ⟨w, hw, hexec⟩ := executeStarts { s with hostq := [] } rb cmd rm sm hf hbusy hsend hrecv
  cases hw
  rw [hstep, writeReg_cmdw (by exact hbusy) (.inr (.inr ⟨by exact hsp, by exact hrp⟩)), hdec, hexec]
  simp only [hwait]
  rfl

/-- Settles O53: the issue, the request phase and the reply phase, each from the state that the one before it leaves. -/
theorem executeCompletes : Obligations.ExecuteCompletes := by
  intro s rb cmd rm sm vals req rs reply moreX moreR moreW hq hf hbusy hsp hrp hwait hpos hsend hrecv hnr hvals hreq hlen hreply hr
    hw hx
  let u := s.executing rb cmd rm sm
  have hissue : step s = .next u := step_execute hq hf hbusy hsp hrp hwait hsend hrecv
  obtain rfl : req = u.requestBytes := hreq
  have hreply' : reply = u.replyBytes vals := by
    rw [hreply, State.replyBytes, State.replyHead]
    simp only [List.append_assoc]
    rfl
  clear hreply
  subst hreply'
  rw [List.append_assoc] at hx
  have hrequest := run_request (s := u) rfl rfl rfl rfl hwait hlen hr hw hx
  let v := u.requested rs (.ok true :: moreR) (.ok :: .ok :: moreW) ((u.replyBytes vals).map .ok ++ moreX)
  obtain ⟨c, st, rfl, hrun⟩ := run_reply (s := v) (vals := vals) (xs := moreX) rfl rfl rfl rfl hpos hnr hvals
    (fun _ _ _ => rfl) rfl rfl rfl
  refine ⟨_, (run_add ((run_add (run_next 0 hissue)).trans hrequest)).trans hrun, rfl, rfl, rfl, rfl, rfl, rfl, rfl, rfl, rfl, rfl,
    rfl, rfl, rfl, ?_⟩
  simp only [u, v, State.executing, State.requested, List.append_assoc]
  rfl

end Sys2Proof.Machine
end
